-- ==== Sys2Proof/Word.lean ====
section
/-! DEFINITION. The word and byte types. A register of the 65k is `W` bits wide with `W` 16, 32 or 64
(spec/00_scope.md R4); every such value is held in a 64-bit word whose bits above `W` are 0. -/

namespace Sys2Proof

/-- A register value, an address or an operand: up to 64 bits. -/
abbrev Word := BitVec 64

/-- One byte of memory or of an instruction. -/
abbrev Byte := BitVec 8

end Sys2Proof
end

