-- ==== Sys2Proof/Config.lean ====
section
/-! DEFINITION. The implementation parameters of the 65k (spec/00_scope.md R4). "A model takes each as an argument":
they are plain data held in the machine's state and never changed by a step, so a statement about every state speaks of
every setting. The values the machine starts with are a DESIGN CHOICE (log entry 1, unsafe). -/

namespace Sys2Proof

/-- The register width option `W` (R4). -/
inductive Width where
  | w16 | w32 | w64
deriving DecidableEq, Repr

/-- What FIL counts in `A` (R543, `FIL_COUNT_UNIT`). -/
inductive FilUnit where
  | elements | bytes
deriving DecidableEq, Repr

/-- Which address an abort stacks (R666, `ABORT_PC`). -/
inductive AbortPc where
  | instructionStart | nextInstruction
deriving DecidableEq, Repr

/-- How a value shorter than `W` is widened (R101 `SHORT_ADDR_EXT`, R414 `RTS_EXT`). -/
inductive Widening where
  | zero | sign
deriving DecidableEq, Repr

/-- The SYS opcode of MVNFU (R177, `SYS_MVNFU_AT`); MVNTU has the other one. -/
inductive MvnfuCode where
  | at94 | atD4
deriving DecidableEq, Repr

/-- The effective extension of an unprefixed TXS or TYS (R322, `TXS_DEFAULT_LE`). -/
inductive TxsDefault where
  | zero | none
deriving DecidableEq, Repr

/-- The parameters of R4, the number of the modelled core (R51) and the platform's vacant physical addresses (R102). -/
structure Config where
  /-- `W` -/
  width : Width
  /-- `HYP`: the hypervisor option is present -/
  hyp : Bool
  /-- `MMU`: the container option is present -/
  mmu : Bool
  /-- `NCONT` -/
  ncont : Nat
  /-- `NCORE` -/
  ncore : Nat
  /-- `NIRQ`: the number of maskable interrupt lines, 1 to 7 -/
  nirq : Nat
  /-- the number of this core, read as MC_MYCORE (R51) -/
  myCore : Nat
  /-- `CMP_SETS_V` (R361) -/
  cmpSetsV : Bool
  /-- `CR_TMV`: the configuration register number of TMV, if any (R47) -/
  crTmv : Option Byte
  /-- `SYS_MVNFU_AT` -/
  mvnfuAt : MvnfuCode
  /-- `FRAME_SHORTEN` (R682) -/
  frameShorten : Bool
  /-- `FIL_COUNT_UNIT` -/
  filUnit : FilUnit
  /-- `ABORT_PC` -/
  abortPc : AbortPc
  /-- `SHORT_ADDR_EXT` -/
  shortAddr : Widening
  /-- `RTS_EXT` -/
  rtsExt : Widening
  /-- `TXS_DEFAULT_LE` -/
  txsDefault : TxsDefault
  /-- physical address ranges (first address, length) at which the platform has nothing (R102) -/
  vacant : List (Nat × Nat)
deriving DecidableEq, Repr

/-- The machine `State.reset` describes: a 32-bit core with every option, eight containers and seven interrupt lines, each
parameter that R4 gives a default at that default, and `CR_TMV` at the number R688 suggests. DESIGN CHOICE (log entry 1,
unsafe). -/
def Config.standard : Config where
  width := .w32
  hyp := true
  mmu := true
  ncont := 8
  ncore := 1
  nirq := 7
  myCore := 0
  cmpSetsV := false
  crTmv := some 0x23
  mvnfuAt := .at94
  frameShorten := true
  filUnit := .elements
  abortPc := .instructionStart
  shortAddr := .zero
  rtsExt := .sign
  txsDefault := .zero
  vacant := []

/-- The configuration register numbers the sources define (R50 to R65); `CR_TMV` is a free number. -/
def Config.listedRegisters : List Byte :=
  [0x00, 0x01, 0x02, 0x03, 0x10, 0x11, 0x12, 0x13, 0x14, 0x15, 0x16, 0x17, 0x20, 0x21, 0x22, 0x30]

/-- The parameter values R4 allows: the MMU needs the hypervisor option, there are no containers without it and at least
four with it (or none), there are 1 to 7 maskable lines, and `CR_TMV` is a free register number. -/
def Config.legal (c : Config) : Bool :=
  (!c.mmu || c.hyp) && (c.ncont == 0 || (c.mmu && decide (4 ≤ c.ncont))) &&
  decide (1 ≤ c.nirq) && decide (c.nirq ≤ 7) && decide (c.myCore < c.ncore) &&
  (match c.crTmv with
    | some r => !Config.listedRegisters.contains r
    | none => true)

end Sys2Proof
end

