-- ==== Sys2Proof/Machine/State.lean ====
section
/-! DEFINITION. The state of one 65k core with its memory and inputs: everything spec/10_state.md names (R20), as plain
data. INVENTORY.md lists each field with its rule and reset value. Also the reasons a step can stop. -/

namespace Sys2Proof.Machine

/-- The memory environment of an access (R8): the hypervisor's (match code `MH`), the user's (match code `MU.code`), or
the untranslated one that only the reset vector read uses (R120). -/
inductive Env where
  | hyp | user | phys
deriving DecidableEq, Repr

/-- The storage bits of the status register (R28 to R40): bits 15:12, 5 and 4 are not storage. -/
structure Status where
  /-- Negative, bit 7 (R29) -/
  n : Bool
  /-- Overflow, bit 6 (R30) -/
  v : Bool
  /-- Decimal, bit 3 (R33) -/
  d : Bool
  /-- Interrupt disable, bit 2 (R34) -/
  i : Bool
  /-- Zero, bit 1 (R35) -/
  z : Bool
  /-- Carry, bit 0 (R36) -/
  c : Bool
  /-- Hypervisor mode, bit 11 (R37) -/
  h : Bool
  /-- Previous hypervisor mode, bit 10 (R38) -/
  p : Bool
  /-- Stack frame size, bits 9:8 (R39) -/
  sf : BitVec 2
deriving DecidableEq, Repr

/-- One container register set (R67 to R70). -/
structure Container where
  /-- address mask, with the match code mask in bits 7:0 (R68) -/
  mask : Word
  /-- address compare value, with the match code compare value in bits 7:0 (R69) -/
  cmp : Word
  /-- address offset, with the control byte in bits 7:0 (R70) -/
  off : Word
deriving DecidableEq, Repr

/-- A load-linked reservation (R73, R134). -/
structure Link where
  /-- the environment of the LLA -/
  env : Env
  /-- its address -/
  addr : Word
  /-- how many bytes it read -/
  nb : Nat
deriving DecidableEq, Repr

/-- The run state of the core (R74). -/
inductive Run where
  | running | waiting | stopped
deriving DecidableEq, Repr

/-- Physical memory: the bytes that are not zero, by strictly rising address (log entry 3). -/
abbrev Memory := List Host.Cell

/-- The architectural state of one core (R20), its hidden state (R71 to R75), its inputs and the physical memory. -/
structure State where
  /-- the implementation parameters (R4) -/
  cfg : Config
  /-- accumulator (R21) -/
  a : Word
  /-- index register (R22) -/
  x : Word
  /-- index register (R23) -/
  y : Word
  /-- effective address register (R24) -/
  e : Word
  /-- base offset register (R25) -/
  b : Word
  /-- user stack pointer (R26) -/
  spu : Word
  /-- hypervisor stack pointer (R26) -/
  sph : Word
  /-- program counter (R27) -/
  pc : Word
  /-- status register (R28) -/
  sr : Status
  /-- interrupt mask (R41) -/
  imr : BitVec 3
  /-- effective interrupt mask (R42) -/
  eim : BitVec 3
  /-- interrupt vector base (R44) -/
  iv : Word
  /-- abort vector base (R46) -/
  av : Word
  /-- trap vector base (R45) -/
  tv : Word
  /-- trap maximum (R47) -/
  tmv : Word
  /-- IVACT (R71) -/
  ivAct : Bool
  /-- AVACT (R71) -/
  avAct : Bool
  /-- TVACT (R71) -/
  tvAct : Bool
  /-- hypervisor match code (R49) -/
  mh : Byte
  /-- user match code, MU bits 7:0 (R48) -/
  muCode : Byte
  /-- user mode interrupt selector, MU bits 10:8 (R48) -/
  muUsel : BitVec 3
  /-- the container register sets (R67) -/
  cont : List Container
  /-- MC_ACTCORE (R53) -/
  actCore : Word
  /-- the levels of the maskable interrupt lines, line `k` in bit `k` (R75) -/
  irqLine : Byte
  /-- the level of the NMI line (R75) -/
  nmiLine : Bool
  /-- NMIPEND (R72) -/
  nmiPend : Bool
  /-- LINK (R73) -/
  link : Option Link
  /-- RUN (R74) -/
  run : Run
  /-- physical memory (R102) -/
  mem : Memory
deriving DecidableEq, Repr

/-- The seven abort conditions (R660). -/
inductive AbortKind where
  | nomem | wprot | noexec | privrti | privop | maxtrap | privmem
deriving DecidableEq, Repr

/-- Why the bytes at the program counter are not an instruction. -/
inductive DecodeError where
  /-- the bytes given end before the instruction does -/
  | truncated
  /-- one of the bytes `$6F`, `$8F`, `$AF`, `$CF`, `$EF` in opcode position (R156) -/
  | reservedPrefix (b : Byte)
  /-- a prefix byte in opcode position (R153) -/
  | misplacedPrefix (b : Byte)
  /-- an unused code of a page: the page byte (`$00` for the standard page) and the code (R178) -/
  | unusedCode (page code : Byte)
  /-- a prefix bit that the instruction does not list is not at its default (R165) -/
  | inapplicablePrefix
deriving DecidableEq, Repr

/-- Faults. -/
inductive Fault where
  /-- Raised by any access, fetch or vector read at a physical address the platform leaves vacant (R102; log entry 4).
  Safe: the model stops where the spec defines nothing. -/
  | vacantAddress (addr : Nat)
deriving DecidableEq, Repr

/-- Refusals: the model gives no next state. Each is safe: the spec says "refuse" (spec/93_implementation_defined.md). -/
inductive Refusal where
  /-- an instruction of the table without a meaning; raised by no arm of `exec` any more. Safe. -/
  | notModelled (mnemonic : String)
  /-- raised by the step: the bytes are no instruction (R153, R156, R165, R178). Safe. -/
  | undecodable (e : DecodeError)
  /-- raised by an instruction whose operation width or return address is wider than `W` (R250, R411). Safe. -/
  | widthTooLarge
  /-- raised by an instruction with UM = 1 when HYP is absent (R701). Safe. -/
  | userSelectorWithoutHyp
  /-- raised by JPU when HYP is absent (R701). Safe. -/
  | jpuWithoutHyp
  /-- raised by ADC and SBC with SR.D = 1 (R358; log entry 11). Safe. -/
  | decimalArithmetic
  /-- raised by LCR, SCR and BCR with an undefined register number (R66). Safe. -/
  | undefinedConfigRegister (number : Byte)
  /-- raised by SCR to a read-only register (R66). Safe. -/
  | readOnlyConfigRegister (number : Byte)
  /-- raised by SCR of a value with a reserved bit set (R44, R45, R46, R55, R61). Safe. -/
  | reservedRegisterBits (number : Byte)
  /-- raised by RTI and RTU on a pulled SF of 00 or one wider than `W` (R39). Safe. -/
  | reservedFrameSize
  /-- raised by SENV without an MMU or with a number that is not below NCONT (R623, R624). Safe. -/
  | containerNumber (number : Nat)
  /-- raised by SMMU in hypervisor mode (R628). Safe. -/
  | mmuBaseUndefined
  /-- raised by FIL when it counts bytes and `A` is not a multiple of the element size (R543). Safe. -/
  | fillCountNotMultiple
  /-- raised by any entry sequence that itself meets an abort condition (R667; log entry 6). Safe. -/
  | entryAborted (k : AbortKind)
  /-- raised by the step when NCORE is not 1 (R131, R710; log entry 12). Safe. -/
  | severalCores
deriving DecidableEq, Repr

/-- The state right after reset (R76, R740), with the parameters of `Config.standard` and no byte of memory listed. The
registers that no source gives a value are zero: DESIGN CHOICE (log entry 2, unsafe). -/
def State.reset : State where
  cfg := Config.standard
  a := 0
  x := 0
  y := 0
  e := 0
  b := 0
  spu := 0
  sph := 0
  pc := 0
  sr := { n := false, v := false, d := false, i := true, z := false, c := false, h := true, p := true, sf := 1 }
  imr := 0
  eim := 0
  iv := 0
  av := 0
  tv := 0
  tmv := 0
  ivAct := false
  avAct := false
  tvAct := false
  mh := 0
  muCode := 0
  muUsel := 0
  cont := List.replicate 8 { mask := 0, cmp := 0, off := 0 }
  actCore := 1
  irqLine := 0
  nmiLine := false
  nmiPend := false
  link := none
  run := .running
  mem := []

end Sys2Proof.Machine
end

