-- ==== Sys2Proof/Machine/Memory.lean ====
section
/-! DEFINITION. Physical memory as a list of the bytes that are not zero, addresses strictly rising (spec/20_memory.md
R102). An address that is not listed reads as zero: DESIGN CHOICE (log entry 3, unsafe). -/

namespace Sys2Proof.Machine

/-- What a byte of memory that nothing has written reads as. -/
def unlistedByte : Byte := 0

/-- The byte at physical address `p`. -/
def Memory.byteAt : Memory → Nat → Byte
  | [], _ => unlistedByte
  | (q, v) :: rest, p => if q = p then v else if p < q then unlistedByte else Memory.byteAt rest p

/-- Write a byte; writing what an unlisted address reads as removes the entry, so that equal memories are equal lists. -/
def Memory.store : Memory → Nat → Byte → Memory
  | [], p, v => if v = unlistedByte then [] else [(p, v)]
  | (q, u) :: rest, p, v =>
    if q = p then (if v = unlistedByte then rest else (p, v) :: rest)
    else if p < q then (if v = unlistedByte then (q, u) :: rest else (p, v) :: (q, u) :: rest)
    else (q, u) :: Memory.store rest p v

/-- The entries listed all lie above address `p`, rise strictly, and hold no unlisted byte. -/
def Memory.wfAbove : Nat → Memory → Bool
  | _, [] => true
  | p, (q, v) :: rest => decide (p ≤ q) && !decide (v = unlistedByte) && Memory.wfAbove (q + 1) rest

/-- The canonical form: addresses strictly rising and no entry equal to what an unlisted address reads as. -/
def Memory.wf (m : Memory) : Bool := Memory.wfAbove 0 m

end Sys2Proof.Machine
end

