-- ==== Sys2Proof/Machine/Bits.lean ====
section
/-! DEFINITION. Bit fields, extensions and byte order (spec/00_scope.md R6, spec/20_memory.md R104). A `k`-bit value
stands in the low `k` bits of a word. -/

namespace Sys2Proof

/-- `W` in bits. -/
def Width.bits : Width → Nat
  | .w16 => 16
  | .w32 => 32
  | .w64 => 64

/-- `W/8`. -/
def Width.bytes : Width → Nat
  | .w16 => 2
  | .w32 => 4
  | .w64 => 8

end Sys2Proof

namespace Sys2Proof.Machine

/-- `trunc_n`, or `zext_W` of an `n`-bit value (R6): the low `n` bits, zeros above. -/
def low (n : Nat) (v : Word) : Word := (v.setWidth n).setWidth 64

/-- `v[i]`. -/
def bitAt (v : Word) (i : Nat) : Bool := v.getLsbD i

/-- `v[n-1]`, the top bit of an `n`-bit value. -/
def topBit (n : Nat) (v : Word) : Bool := v.getLsbD (n - 1)

/-- `sext_w` of an `n`-bit value; with `w < n` the low `w` bits (R6, R230). -/
def signExt (n w : Nat) (v : Word) : Word := low w ((v.setWidth n).signExtend 64)

/-- `oext_w` of an `n`-bit value: ones above (R252). -/
def onesExt (n w : Nat) (v : Word) : Word := low w (low n v ||| (BitVec.allOnes 64 <<< n))

/-- `reg[n-1:0] <- v` with the other bits kept (R7). -/
def insertLow (n : Nat) (reg v : Word) : Word := ((reg >>> n) <<< n) ||| low n v

/-- The number of one bits of an `n`-bit value. -/
def popCount : Nat → Word → Nat
  | 0, _ => 0
  | n + 1, v => popCount n v + (v.getLsbD n).toNat

/-- The `k` bytes of a value, least significant first (R104). -/
def toBytes : Nat → Word → List Byte
  | 0, _ => []
  | k + 1, v => v.setWidth 8 :: toBytes k (v >>> 8)

/-- The value of bytes given least significant first (R104). -/
def ofBytes : List Byte → Word
  | [] => 0
  | b :: bs => b.setWidth 64 ||| (ofBytes bs <<< 8)

end Sys2Proof.Machine
end

