-- ==== Sys2Proof/Syntax.lean ====
section
/-! DEFINITION. The instructions of the 65k: one constructor per row of spec/opcode_table.json (399 rows, spec/30_encoding.md
R172 to R177). Every constructor carries the prefix bytes that stand before it (R150); a row with operand bytes carries the
operand, and a QUICK row its count field `nnn` (R175). -/

namespace Sys2Proof

/-- The OF field of prefix1 (R161). -/
inductive OffsetReg where
  | none | pc | sp | b
deriving DecidableEq, Repr

/-- The RS field of prefix1 (R160). -/
inductive Size where
  | b8 | b16 | b32 | b64
deriving DecidableEq, Repr

/-- The LE field of prefix2 (R162). -/
inductive Extension where
  | none | sign | zero | ones
deriving DecidableEq, Repr

/-- The variable fields of a prefix1 byte (R151). -/
structure Prefix1 where
  /-- OF -/
  offset : OffsetReg
  /-- RS -/
  size : Size
  /-- AM -/
  am : Bool
deriving DecidableEq, Repr

/-- The variable fields of a prefix2 byte (R152). -/
structure Prefix2 where
  /-- UM -/
  um : Bool
  /-- LE -/
  ext : Extension
  /-- NF -/
  nf : Bool
deriving DecidableEq, Repr

/-- The prefix bytes before an instruction: at most one of each kind (R153). A prefix byte whose fields are all default is
kept apart from an absent one, because a prefix2 makes LE literal (R154). -/
structure Pfx where
  /-- prefix1, if present -/
  p1 : Option Prefix1
  /-- prefix2, if present -/
  p2 : Option Prefix2
deriving DecidableEq, Repr

/-- No prefix bytes. -/
def Pfx.none : Pfx := { p1 := Option.none, p2 := Option.none }

/-- The opcode pages (R155). -/
inductive Page where
  | std | ext | sys | quick
deriving DecidableEq, Repr

/-- The formats of spec/opcode_table.json (R185): how many operand bytes, and what they are. -/
inductive Format where
  | implied | accum | imm | imm8
  | zp | zpX | zpY | abs | absX | absY
  | indZp | indZpY | indZpX | indAbs | indAbsY | indAbsX
  | qindZp | qindZpY | qindZpX | qindAbs | qindAbsY | qindAbsX
  | eInd | rel | relAm | relWideAm | zpE
  | quickReg | quickE | quickZp
deriving DecidableEq, Repr

/-- The prefix bits an instruction lists (R165). -/
structure Applicable where
  /-- NF -/
  nf : Bool := false
  /-- RS -/
  rs : Bool := false
  /-- UM -/
  um : Bool := false
  /-- OF -/
  ofs : Bool := false
  /-- LE -/
  le : Bool := false
  /-- AM -/
  am : Bool := false
deriving DecidableEq, Repr

/-- One row of spec/opcode_table.json: page, opcode byte, format and applicable prefix bits; `dup` marks the duplicate
opcodes, which need prefix1 with AM = 1 (R157). The code of a QUICK row has count field 0. -/
structure Row where
  /-- page -/
  page : Page
  /-- opcode byte -/
  code : Byte
  /-- operand format -/
  format : Format
  /-- applicable prefix bits -/
  takes : Applicable
  /-- requires AM = 1 -/
  dup : Bool := false
deriving DecidableEq, Repr

/-- An instruction seen through its row: the row and the fields the encoding varies. -/
structure View where
  /-- its row -/
  row : Row
  /-- its prefix bytes -/
  pfx : Pfx
  /-- the QUICK count field -/
  cnt : BitVec 3
  /-- the operand bytes as a little-endian value -/
  op : Word
deriving DecidableEq, Repr

/-- The instructions, in the order of the opcode table: standard page, duplicate opcodes, EXT, SYS, QUICK. -/
inductive Instr where
  -- standard page
  | brk (p : Pfx) -- `$00` BRK, R689
  | oraIndZpX (p : Pfx) (op : Word) -- `$01` ORA (zp,X), R351
  | ldaZpY (p : Pfx) (op : Word) -- `$02` LDA zp,Y, R301
  | tsbZp (p : Pfx) (op : Word) -- `$04` TSB zp, R375
  | oraZp (p : Pfx) (op : Word) -- `$05` ORA zp, R351
  | aslZp (p : Pfx) (op : Word) -- `$06` ASL zp, R371
  | php (p : Pfx) -- `$08` PHP, R321
  | oraImm (p : Pfx) (op : Word) -- `$09` ORA #, R351
  | aslA (p : Pfx) -- `$0A` ASL A, R371
  | tsbAbs (p : Pfx) (op : Word) -- `$0C` TSB abs, R375
  | oraAbs (p : Pfx) (op : Word) -- `$0D` ORA abs, R351
  | aslAbs (p : Pfx) (op : Word) -- `$0E` ASL abs, R371
  | bpl (p : Pfx) (op : Word) -- `$10` BPL rel, R401
  | oraIndZpY (p : Pfx) (op : Word) -- `$11` ORA (zp),Y, R351
  | oraIndZp (p : Pfx) (op : Word) -- `$12` ORA (zp), R351
  | trbZp (p : Pfx) (op : Word) -- `$14` TRB zp, R376
  | oraZpX (p : Pfx) (op : Word) -- `$15` ORA zp,X, R351
  | aslZpX (p : Pfx) (op : Word) -- `$16` ASL zp,X, R371
  | clc (p : Pfx) -- `$18` CLC, R380
  | oraAbsY (p : Pfx) (op : Word) -- `$19` ORA abs,Y, R351
  | incA (p : Pfx) -- `$1A` INC A, R365
  | trbAbs (p : Pfx) (op : Word) -- `$1C` TRB abs, R376
  | oraAbsX (p : Pfx) (op : Word) -- `$1D` ORA abs,X, R351
  | aslAbsX (p : Pfx) (op : Word) -- `$1E` ASL abs,X, R371
  | aslAbsY (p : Pfx) (op : Word) -- `$1F` ASL abs,Y, R371
  | jsrAbs (p : Pfx) (op : Word) -- `$20` JSR abs, R412
  | andIndZpX (p : Pfx) (op : Word) -- `$21` AND (zp,X), R352
  | staZpY (p : Pfx) (op : Word) -- `$22` STA zp,Y, R304
  | bitZp (p : Pfx) (op : Word) -- `$24` BIT zp, R363
  | andZp (p : Pfx) (op : Word) -- `$25` AND zp, R352
  | rolZp (p : Pfx) (op : Word) -- `$26` ROL zp, R373
  | plp (p : Pfx) -- `$28` PLP, R323
  | andImm (p : Pfx) (op : Word) -- `$29` AND #, R352
  | rolA (p : Pfx) -- `$2A` ROL A, R373
  | bitAbs (p : Pfx) (op : Word) -- `$2C` BIT abs, R363
  | andAbs (p : Pfx) (op : Word) -- `$2D` AND abs, R352
  | rolAbs (p : Pfx) (op : Word) -- `$2E` ROL abs, R373
  | bmi (p : Pfx) (op : Word) -- `$30` BMI rel, R402
  | andIndZpY (p : Pfx) (op : Word) -- `$31` AND (zp),Y, R352
  | andIndZp (p : Pfx) (op : Word) -- `$32` AND (zp), R352
  | bitZpX (p : Pfx) (op : Word) -- `$34` BIT zp,X, R363
  | andZpX (p : Pfx) (op : Word) -- `$35` AND zp,X, R352
  | rolZpX (p : Pfx) (op : Word) -- `$36` ROL zp,X, R373
  | sec (p : Pfx) -- `$38` SEC, R381
  | andAbsY (p : Pfx) (op : Word) -- `$39` AND abs,Y, R352
  | decA (p : Pfx) -- `$3A` DEC A, R366
  | bitAbsX (p : Pfx) (op : Word) -- `$3C` BIT abs,X, R363
  | andAbsX (p : Pfx) (op : Word) -- `$3D` AND abs,X, R352
  | rolAbsX (p : Pfx) (op : Word) -- `$3E` ROL abs,X, R373
  | rolAbsY (p : Pfx) (op : Word) -- `$3F` ROL abs,Y, R373
  | rti (p : Pfx) -- `$40` RTI, R692
  | eorIndZpX (p : Pfx) (op : Word) -- `$41` EOR (zp,X), R353
  | ldaIndAbsY (p : Pfx) (op : Word) -- `$42` LDA (abs),Y, R301
  | bsrRelWide (p : Pfx) (op : Word) -- `$44` BSR relwide, R413
  | eorZp (p : Pfx) (op : Word) -- `$45` EOR zp, R353
  | lsrZp (p : Pfx) (op : Word) -- `$46` LSR zp, R372
  | pha (p : Pfx) -- `$48` PHA, R315
  | eorImm (p : Pfx) (op : Word) -- `$49` EOR #, R353
  | lsrA (p : Pfx) -- `$4A` LSR A, R372
  | jmpAbs (p : Pfx) (op : Word) -- `$4C` JMP abs, R410
  | eorAbs (p : Pfx) (op : Word) -- `$4D` EOR abs, R353
  | lsrAbs (p : Pfx) (op : Word) -- `$4E` LSR abs, R372
  | bvc (p : Pfx) (op : Word) -- `$50` BVC rel, R403
  | eorIndZpY (p : Pfx) (op : Word) -- `$51` EOR (zp),Y, R353
  | eorIndZp (p : Pfx) (op : Word) -- `$52` EOR (zp), R353
  | eorZpX (p : Pfx) (op : Word) -- `$55` EOR zp,X, R353
  | lsrZpX (p : Pfx) (op : Word) -- `$56` LSR zp,X, R372
  | cli (p : Pfx) -- `$58` CLI, R382
  | eorAbsY (p : Pfx) (op : Word) -- `$59` EOR abs,Y, R353
  | phy (p : Pfx) -- `$5A` PHY, R317
  | eorAbsX (p : Pfx) (op : Word) -- `$5D` EOR abs,X, R353
  | lsrAbsX (p : Pfx) (op : Word) -- `$5E` LSR abs,X, R372
  | lsrAbsY (p : Pfx) (op : Word) -- `$5F` LSR abs,Y, R372
  | rts (p : Pfx) -- `$60` RTS, R414
  | adcIndZpX (p : Pfx) (op : Word) -- `$61` ADC (zp,X), R354
  | ldaIndAbsX (p : Pfx) (op : Word) -- `$62` LDA (abs,X), R301
  | stzZp (p : Pfx) (op : Word) -- `$64` STZ zp, R307
  | adcZp (p : Pfx) (op : Word) -- `$65` ADC zp, R354
  | rorZp (p : Pfx) (op : Word) -- `$66` ROR zp, R374
  | pla (p : Pfx) -- `$68` PLA, R318
  | adcImm (p : Pfx) (op : Word) -- `$69` ADC #, R354
  | rorA (p : Pfx) -- `$6A` ROR A, R374
  | jmpIndAbs (p : Pfx) (op : Word) -- `$6C` JMP (abs), R410
  | adcAbs (p : Pfx) (op : Word) -- `$6D` ADC abs, R354
  | rorAbs (p : Pfx) (op : Word) -- `$6E` ROR abs, R374
  | bvs (p : Pfx) (op : Word) -- `$70` BVS rel, R404
  | adcIndZpY (p : Pfx) (op : Word) -- `$71` ADC (zp),Y, R354
  | adcIndZp (p : Pfx) (op : Word) -- `$72` ADC (zp), R354
  | stzZpX (p : Pfx) (op : Word) -- `$74` STZ zp,X, R307
  | adcZpX (p : Pfx) (op : Word) -- `$75` ADC zp,X, R354
  | rorZpX (p : Pfx) (op : Word) -- `$76` ROR zp,X, R374
  | sei (p : Pfx) -- `$78` SEI, R383
  | adcAbsY (p : Pfx) (op : Word) -- `$79` ADC abs,Y, R354
  | ply (p : Pfx) -- `$7A` PLY, R320
  | jmpIndAbsX (p : Pfx) (op : Word) -- `$7C` JMP (abs,X), R410
  | adcAbsX (p : Pfx) (op : Word) -- `$7D` ADC abs,X, R354
  | rorAbsX (p : Pfx) (op : Word) -- `$7E` ROR abs,X, R374
  | rorAbsY (p : Pfx) (op : Word) -- `$7F` ROR abs,Y, R374
  | bra (p : Pfx) (op : Word) -- `$80` BRA rel, R409
  | staIndZpX (p : Pfx) (op : Word) -- `$81` STA (zp,X), R304
  | bsrRel (p : Pfx) (op : Word) -- `$82` BSR rel, R413
  | styZp (p : Pfx) (op : Word) -- `$84` STY zp, R306
  | staZp (p : Pfx) (op : Word) -- `$85` STA zp, R304
  | stxZp (p : Pfx) (op : Word) -- `$86` STX zp, R305
  | dey (p : Pfx) -- `$88` DEY, R370
  | bitImm (p : Pfx) (op : Word) -- `$89` BIT #, R363
  | txa (p : Pfx) -- `$8A` TXA, R312
  | styAbs (p : Pfx) (op : Word) -- `$8C` STY abs, R306
  | staAbs (p : Pfx) (op : Word) -- `$8D` STA abs, R304
  | stxAbs (p : Pfx) (op : Word) -- `$8E` STX abs, R305
  | bcc (p : Pfx) (op : Word) -- `$90` BCC rel, R405
  | staIndZpY (p : Pfx) (op : Word) -- `$91` STA (zp),Y, R304
  | staIndZp (p : Pfx) (op : Word) -- `$92` STA (zp), R304
  | styZpX (p : Pfx) (op : Word) -- `$94` STY zp,X, R306
  | staZpX (p : Pfx) (op : Word) -- `$95` STA zp,X, R304
  | stxZpY (p : Pfx) (op : Word) -- `$96` STX zp,Y, R305
  | tya (p : Pfx) -- `$98` TYA, R313
  | staAbsY (p : Pfx) (op : Word) -- `$99` STA abs,Y, R304
  | txs (p : Pfx) -- `$9A` TXS, R322
  | stzAbs (p : Pfx) (op : Word) -- `$9C` STZ abs, R307
  | staAbsX (p : Pfx) (op : Word) -- `$9D` STA abs,X, R304
  | stzAbsX (p : Pfx) (op : Word) -- `$9E` STZ abs,X, R307
  | styAbsX (p : Pfx) (op : Word) -- `$9F` STY abs,X, R306
  | ldyImm (p : Pfx) (op : Word) -- `$A0` LDY #, R303
  | ldaIndZpX (p : Pfx) (op : Word) -- `$A1` LDA (zp,X), R301
  | ldxImm (p : Pfx) (op : Word) -- `$A2` LDX #, R302
  | ldyZp (p : Pfx) (op : Word) -- `$A4` LDY zp, R303
  | ldaZp (p : Pfx) (op : Word) -- `$A5` LDA zp, R301
  | ldxZp (p : Pfx) (op : Word) -- `$A6` LDX zp, R302
  | tay (p : Pfx) -- `$A8` TAY, R311
  | ldaImm (p : Pfx) (op : Word) -- `$A9` LDA #, R301
  | tax (p : Pfx) -- `$AA` TAX, R310
  | ldyAbs (p : Pfx) (op : Word) -- `$AC` LDY abs, R303
  | ldaAbs (p : Pfx) (op : Word) -- `$AD` LDA abs, R301
  | ldxAbs (p : Pfx) (op : Word) -- `$AE` LDX abs, R302
  | bcs (p : Pfx) (op : Word) -- `$B0` BCS rel, R406
  | ldaIndZpY (p : Pfx) (op : Word) -- `$B1` LDA (zp),Y, R301
  | ldaIndZp (p : Pfx) (op : Word) -- `$B2` LDA (zp), R301
  | ldyZpX (p : Pfx) (op : Word) -- `$B4` LDY zp,X, R303
  | ldaZpX (p : Pfx) (op : Word) -- `$B5` LDA zp,X, R301
  | ldxZpY (p : Pfx) (op : Word) -- `$B6` LDX zp,Y, R302
  | clv (p : Pfx) -- `$B8` CLV, R384
  | ldaAbsY (p : Pfx) (op : Word) -- `$B9` LDA abs,Y, R301
  | tsx (p : Pfx) -- `$BA` TSX, R314
  | ldyAbsX (p : Pfx) (op : Word) -- `$BC` LDY abs,X, R303
  | ldaAbsX (p : Pfx) (op : Word) -- `$BD` LDA abs,X, R301
  | ldxAbsY (p : Pfx) (op : Word) -- `$BE` LDX abs,Y, R302
  | stxAbsY (p : Pfx) (op : Word) -- `$BF` STX abs,Y, R305
  | cpyImm (p : Pfx) (op : Word) -- `$C0` CPY #, R364
  | cmpIndZpX (p : Pfx) (op : Word) -- `$C1` CMP (zp,X), R360
  | staIndAbsY (p : Pfx) (op : Word) -- `$C2` STA (abs),Y, R304
  | cpyZp (p : Pfx) (op : Word) -- `$C4` CPY zp, R364
  | cmpZp (p : Pfx) (op : Word) -- `$C5` CMP zp, R360
  | decZp (p : Pfx) (op : Word) -- `$C6` DEC zp, R366
  | iny (p : Pfx) -- `$C8` INY, R368
  | cmpImm (p : Pfx) (op : Word) -- `$C9` CMP #, R360
  | dex (p : Pfx) -- `$CA` DEX, R369
  | cpyAbs (p : Pfx) (op : Word) -- `$CC` CPY abs, R364
  | cmpAbs (p : Pfx) (op : Word) -- `$CD` CMP abs, R360
  | decAbs (p : Pfx) (op : Word) -- `$CE` DEC abs, R366
  | bne (p : Pfx) (op : Word) -- `$D0` BNE rel, R407
  | cmpIndZpY (p : Pfx) (op : Word) -- `$D1` CMP (zp),Y, R360
  | cmpIndZp (p : Pfx) (op : Word) -- `$D2` CMP (zp), R360
  | cmpZpX (p : Pfx) (op : Word) -- `$D5` CMP zp,X, R360
  | decZpX (p : Pfx) (op : Word) -- `$D6` DEC zp,X, R366
  | cld (p : Pfx) -- `$D8` CLD, R385
  | cmpAbsY (p : Pfx) (op : Word) -- `$D9` CMP abs,Y, R360
  | phx (p : Pfx) -- `$DA` PHX, R316
  | jsrIndAbs (p : Pfx) (op : Word) -- `$DC` JSR (abs), R412
  | cmpAbsX (p : Pfx) (op : Word) -- `$DD` CMP abs,X, R360
  | decAbsX (p : Pfx) (op : Word) -- `$DE` DEC abs,X, R366
  | decAbsY (p : Pfx) (op : Word) -- `$DF` DEC abs,Y, R366
  | cpxImm (p : Pfx) (op : Word) -- `$E0` CPX #, R362
  | sbcIndZpX (p : Pfx) (op : Word) -- `$E1` SBC (zp,X), R355
  | staIndAbsX (p : Pfx) (op : Word) -- `$E2` STA (abs,X), R304
  | cpxZp (p : Pfx) (op : Word) -- `$E4` CPX zp, R362
  | sbcZp (p : Pfx) (op : Word) -- `$E5` SBC zp, R355
  | incZp (p : Pfx) (op : Word) -- `$E6` INC zp, R365
  | inx (p : Pfx) -- `$E8` INX, R367
  | sbcImm (p : Pfx) (op : Word) -- `$E9` SBC #, R355
  | nop (p : Pfx) -- `$EA` NOP, R387
  | cpxAbs (p : Pfx) (op : Word) -- `$EC` CPX abs, R362
  | sbcAbs (p : Pfx) (op : Word) -- `$ED` SBC abs, R355
  | incAbs (p : Pfx) (op : Word) -- `$EE` INC abs, R365
  | beq (p : Pfx) (op : Word) -- `$F0` BEQ rel, R408
  | sbcIndZpY (p : Pfx) (op : Word) -- `$F1` SBC (zp),Y, R355
  | sbcIndZp (p : Pfx) (op : Word) -- `$F2` SBC (zp), R355
  | trp (p : Pfx) (op : Word) -- `$F4` TRP #, R687
  | sbcZpX (p : Pfx) (op : Word) -- `$F5` SBC zp,X, R355
  | incZpX (p : Pfx) (op : Word) -- `$F6` INC zp,X, R365
  | sed (p : Pfx) -- `$F8` SED, R386
  | sbcAbsY (p : Pfx) (op : Word) -- `$F9` SBC abs,Y, R355
  | plx (p : Pfx) -- `$FA` PLX, R319
  | jsrIndAbsX (p : Pfx) (op : Word) -- `$FC` JSR (abs,X), R412
  | sbcAbsX (p : Pfx) (op : Word) -- `$FD` SBC abs,X, R355
  | incAbsX (p : Pfx) (op : Word) -- `$FE` INC abs,X, R365
  | incAbsY (p : Pfx) (op : Word) -- `$FF` INC abs,Y, R365
  -- standard page, duplicate opcodes
  | oraQindZpX (p : Pfx) (op : Word) -- `$03` ORA [[zp,X]], R351
  | jmpQindAbs (p : Pfx) (op : Word) -- `$07` JMP [[abs]], R410
  | oraQindZpY (p : Pfx) (op : Word) -- `$13` ORA [[zp]],Y, R351
  | oraQindZp (p : Pfx) (op : Word) -- `$17` ORA [[zp]], R351
  | andQindZpX (p : Pfx) (op : Word) -- `$23` AND [[zp,X]], R352
  | jmpQindAbsX (p : Pfx) (op : Word) -- `$27` JMP [[abs,X]], R410
  | andQindZpY (p : Pfx) (op : Word) -- `$33` AND [[zp]],Y, R352
  | andQindZp (p : Pfx) (op : Word) -- `$37` AND [[zp]], R352
  | eorQindZpX (p : Pfx) (op : Word) -- `$43` EOR [[zp,X]], R353
  | ldaQindAbsY (p : Pfx) (op : Word) -- `$47` LDA [[abs]],Y, R301
  | eorQindZpY (p : Pfx) (op : Word) -- `$53` EOR [[zp]],Y, R353
  | eorQindZp (p : Pfx) (op : Word) -- `$57` EOR [[zp]], R353
  | adcQindZpX (p : Pfx) (op : Word) -- `$63` ADC [[zp,X]], R354
  | ldaQindAbsX (p : Pfx) (op : Word) -- `$67` LDA [[abs,X]], R301
  | adcQindZpY (p : Pfx) (op : Word) -- `$73` ADC [[zp]],Y, R354
  | adcQindZp (p : Pfx) (op : Word) -- `$77` ADC [[zp]], R354
  | staQindZpX (p : Pfx) (op : Word) -- `$83` STA [[zp,X]], R304
  | jsrQindAbs (p : Pfx) (op : Word) -- `$87` JSR [[abs]], R412
  | staQindZpY (p : Pfx) (op : Word) -- `$93` STA [[zp]],Y, R304
  | staQindZp (p : Pfx) (op : Word) -- `$97` STA [[zp]], R304
  | ldaQindZpX (p : Pfx) (op : Word) -- `$A3` LDA [[zp,X]], R301
  | jsrQindAbsX (p : Pfx) (op : Word) -- `$A7` JSR [[abs,X]], R412
  | ldaQindZpY (p : Pfx) (op : Word) -- `$B3` LDA [[zp]],Y, R301
  | ldaQindZp (p : Pfx) (op : Word) -- `$B7` LDA [[zp]], R301
  | cmpQindZpX (p : Pfx) (op : Word) -- `$C3` CMP [[zp,X]], R360
  | staQindAbsY (p : Pfx) (op : Word) -- `$C7` STA [[abs]],Y, R304
  | cmpQindZpY (p : Pfx) (op : Word) -- `$D3` CMP [[zp]],Y, R360
  | cmpQindZp (p : Pfx) (op : Word) -- `$D7` CMP [[zp]], R360
  | sbcQindZpX (p : Pfx) (op : Word) -- `$E3` SBC [[zp,X]], R355
  | staQindAbsX (p : Pfx) (op : Word) -- `$E7` STA [[abs,X]], R304
  | sbcQindZpY (p : Pfx) (op : Word) -- `$F3` SBC [[zp]],Y, R355
  | sbcQindZp (p : Pfx) (op : Word) -- `$F7` SBC [[zp]], R355
  -- EXT page
  | leaZpY (p : Pfx) (op : Word) -- `$0F $02` LEA zp,Y, R535
  | mvn (p : Pfx) -- `$0F $04` MVN, R542
  | asrZp (p : Pfx) (op : Word) -- `$0F $06` ASR zp, R526
  | phe (p : Pfx) -- `$0F $08` PHE, R578
  | oraE (p : Pfx) -- `$0F $09` ORA (E), R509
  | asrA (p : Pfx) -- `$0F $0A` ASR A, R526
  | tsbE (p : Pfx) -- `$0F $0C` TSB (E), R518
  | aslE (p : Pfx) -- `$0F $0D` ASL (E), R520
  | asrAbs (p : Pfx) (op : Word) -- `$0F $0E` ASR abs, R526
  | mvp (p : Pfx) -- `$0F $14` MVP, R541
  | asrZpX (p : Pfx) (op : Word) -- `$0F $16` ASR zp,X, R526
  | trbE (p : Pfx) -- `$0F $1C` TRB (E), R519
  | asrE (p : Pfx) -- `$0F $1D` ASR (E), R526
  | asrAbsX (p : Pfx) (op : Word) -- `$0F $1E` ASR abs,X, R526
  | asrAbsY (p : Pfx) (op : Word) -- `$0F $1F` ASR abs,Y, R526
  | jsrE (p : Pfx) -- `$0F $20` JSR (E), R412
  | peaZpY (p : Pfx) (op : Word) -- `$0F $22` PEA zp,Y, R536
  | fil (p : Pfx) -- `$0F $24` FIL, R543
  | adeImm (p : Pfx) (op : Word) -- `$0F $25` ADE #, R561
  | rdlZp (p : Pfx) (op : Word) -- `$0F $26` RDL zp, R527
  | ple (p : Pfx) -- `$0F $28` PLE, R579
  | andE (p : Pfx) -- `$0F $29` AND (E), R510
  | rdlA (p : Pfx) -- `$0F $2A` RDL A, R527
  | rolE (p : Pfx) -- `$0F $2D` ROL (E), R521
  | rdlAbs (p : Pfx) (op : Word) -- `$0F $2E` RDL abs, R527
  | bitA (p : Pfx) -- `$0F $34` BIT A, R600
  | adeA (p : Pfx) -- `$0F $35` ADE A, R562
  | rdlZpX (p : Pfx) (op : Word) -- `$0F $36` RDL zp,X, R527
  | ldeImm (p : Pfx) (op : Word) -- `$0F $39` LDE #, R575
  | rdlE (p : Pfx) -- `$0F $3D` RDL (E), R527
  | rdlAbsX (p : Pfx) (op : Word) -- `$0F $3E` RDL abs,X, R527
  | rdlAbsY (p : Pfx) (op : Word) -- `$0F $3F` RDL abs,Y, R527
  | leaIndAbsY (p : Pfx) (op : Word) -- `$0F $42` LEA (abs),Y, R535
  | leaRelWide (p : Pfx) (op : Word) -- `$0F $44` LEA relwide, R535
  | adsImm (p : Pfx) (op : Word) -- `$0F $45` ADS #, R563
  | phb (p : Pfx) -- `$0F $48` PHB, R580
  | eorE (p : Pfx) -- `$0F $49` EOR (E), R511
  | lsrE (p : Pfx) -- `$0F $4D` LSR (E), R522
  | peaRelWide (p : Pfx) (op : Word) -- `$0F $54` PEA relwide, R536
  | adsA (p : Pfx) -- `$0F $55` ADS A, R564
  | prb (p : Pfx) -- `$0F $58` PRB, R582
  | ldbImm (p : Pfx) (op : Word) -- `$0F $59` LDB #, R576
  | leaIndAbsX (p : Pfx) (op : Word) -- `$0F $62` LEA (abs,X), R535
  | rmb (p : Pfx) -- `$0F $64` RMB, R532
  | adbImm (p : Pfx) (op : Word) -- `$0F $65` ADB #, R565
  | rdrZp (p : Pfx) (op : Word) -- `$0F $66` RDR zp, R528
  | plb (p : Pfx) -- `$0F $68` PLB, R581
  | adcE (p : Pfx) -- `$0F $69` ADC (E), R512
  | rdrA (p : Pfx) -- `$0F $6A` RDR A, R528
  | rorE (p : Pfx) -- `$0F $6D` ROR (E), R523
  | rdrAbs (p : Pfx) (op : Word) -- `$0F $6E` RDR abs, R528
  | wmb (p : Pfx) -- `$0F $74` WMB, R533
  | adbA (p : Pfx) -- `$0F $75` ADB A, R566
  | rdrZpX (p : Pfx) (op : Word) -- `$0F $76` RDR zp,X, R528
  | rdrE (p : Pfx) -- `$0F $7D` RDR (E), R528
  | rdrAbsX (p : Pfx) (op : Word) -- `$0F $7E` RDR abs,X, R528
  | rdrAbsY (p : Pfx) (op : Word) -- `$0F $7F` RDR abs,Y, R528
  | leaRel (p : Pfx) (op : Word) -- `$0F $80` LEA rel, R535
  | peaIndZpX (p : Pfx) (op : Word) -- `$0F $81` PEA (zp,X), R536
  | peaRel (p : Pfx) (op : Word) -- `$0F $82` PEA rel, R536
  | scaE (p : Pfx) -- `$0F $84` SCA (E), R531
  | peaZp (p : Pfx) (op : Word) -- `$0F $85` PEA zp, R536
  | leaZp (p : Pfx) (op : Word) -- `$0F $86` LEA zp, R535
  | tae (p : Pfx) -- `$0F $88` TAE, R585
  | bitE (p : Pfx) -- `$0F $89` BIT (E), R517
  | tys (p : Pfx) -- `$0F $8A` TYS, R593
  | styE (p : Pfx) -- `$0F $8C` STY (E), R506
  | staE (p : Pfx) -- `$0F $8D` STA (E), R504
  | stxE (p : Pfx) -- `$0F $8E` STX (E), R505
  | peaIndZpY (p : Pfx) (op : Word) -- `$0F $91` PEA (zp),Y, R536
  | peaIndZp (p : Pfx) (op : Word) -- `$0F $92` PEA (zp), R536
  | llaE (p : Pfx) -- `$0F $94` LLA (E), R530
  | peaZpX (p : Pfx) (op : Word) -- `$0F $95` PEA zp,X, R536
  | leaZpX (p : Pfx) (op : Word) -- `$0F $96` LEA zp,X, R535
  | tea (p : Pfx) -- `$0F $98` TEA, R586
  | peaAbsY (p : Pfx) (op : Word) -- `$0F $99` PEA abs,Y, R536
  | sxy (p : Pfx) -- `$0F $9A` SXY, R595
  | stzE (p : Pfx) -- `$0F $9C` STZ (E), R507
  | stzAbsY (p : Pfx) (op : Word) -- `$0F $9E` STZ abs,Y, R508
  | ldyE (p : Pfx) -- `$0F $A0` LDY (E), R503
  | leaIndZpX (p : Pfx) (op : Word) -- `$0F $A1` LEA (zp,X), R535
  | ldxE (p : Pfx) -- `$0F $A2` LDX (E), R502
  | invA (p : Pfx) -- `$0F $A4` INV A, R601
  | sbeImm (p : Pfx) (op : Word) -- `$0F $A5` SBE #, R567
  | ldaE (p : Pfx) -- `$0F $A9` LDA (E), R501
  | peaAbs (p : Pfx) (op : Word) -- `$0F $AD` PEA abs, R536
  | leaAbs (p : Pfx) (op : Word) -- `$0F $AE` LEA abs, R535
  | leaIndZpY (p : Pfx) (op : Word) -- `$0F $B1` LEA (zp),Y, R535
  | leaIndZp (p : Pfx) (op : Word) -- `$0F $B2` LEA (zp), R535
  | bcnA (p : Pfx) -- `$0F $B4` BCN A, R604
  | sbeA (p : Pfx) -- `$0F $B5` SBE A, R568
  | seb (p : Pfx) -- `$0F $B8` SEB, R599
  | leaAbsY (p : Pfx) (op : Word) -- `$0F $B9` LEA abs,Y, R535
  | sax (p : Pfx) -- `$0F $BA` SAX, R596
  | bcnE (p : Pfx) -- `$0F $BC` BCN (E), R605
  | peaAbsX (p : Pfx) (op : Word) -- `$0F $BD` PEA abs,X, R536
  | leaAbsX (p : Pfx) (op : Word) -- `$0F $BE` LEA abs,X, R535
  | cpyE (p : Pfx) -- `$0F $C0` CPY (E), R516
  | peaIndAbsY (p : Pfx) (op : Word) -- `$0F $C2` PEA (abs),Y, R536
  | extA (p : Pfx) -- `$0F $C4` EXT A, R602
  | sbsImm (p : Pfx) (op : Word) -- `$0F $C5` SBS #, R569
  | tpa (p : Pfx) -- `$0F $C8` TPA, R591
  | cmpE (p : Pfx) -- `$0F $C9` CMP (E), R514
  | tsy (p : Pfx) -- `$0F $CA` TSY, R592
  | decE (p : Pfx) -- `$0F $CD` DEC (E), R525
  | swpA (p : Pfx) -- `$0F $D4` SWP A, R603
  | sbsA (p : Pfx) -- `$0F $D5` SBS A, R570
  | sae (p : Pfx) -- `$0F $D8` SAE, R598
  | say (p : Pfx) -- `$0F $DA` SAY, R597
  | cpxE (p : Pfx) -- `$0F $E0` CPX (E), R515
  | peaIndAbsX (p : Pfx) (op : Word) -- `$0F $E2` PEA (abs,X), R536
  | rmbE (p : Pfx) -- `$0F $E4` RMB (E), R532
  | sbbImm (p : Pfx) (op : Word) -- `$0F $E5` SBB #, R571
  | tab (p : Pfx) -- `$0F $E8` TAB, R587
  | sbcE (p : Pfx) -- `$0F $E9` SBC (E), R513
  | teb (p : Pfx) -- `$0F $EA` TEB, R589
  | incE (p : Pfx) -- `$0F $ED` INC (E), R524
  | wmbE (p : Pfx) -- `$0F $F4` WMB (E), R533
  | sbbA (p : Pfx) -- `$0F $F5` SBB A, R572
  | tba (p : Pfx) -- `$0F $F8` TBA, R588
  | tbe (p : Pfx) -- `$0F $FA` TBE, R590
  -- SYS page
  | lcr (p : Pfx) (op : Word) -- `$2F $01` LCR #, R620
  | senv (p : Pfx) (op : Word) -- `$2F $04` SENV #, R623
  | senvE (p : Pfx) (op : Word) -- `$2F $14` SENV zp,(E), R624
  | scr (p : Pfx) (op : Word) -- `$2F $21` SCR #, R621
  | bcr (p : Pfx) (op : Word) -- `$2F $41` BCR #, R622
  | smmu (p : Pfx) -- `$2F $44` SMMU, R628
  | jpuAbs (p : Pfx) (op : Word) -- `$2F $4C` JPU abs, R625
  | cleim (p : Pfx) -- `$2F $55` CLEIM, R627
  | rtu (p : Pfx) -- `$2F $60` RTU, R629
  | jpuIndAbs (p : Pfx) (op : Word) -- `$2F $6C` JPU (abs), R626
  | filu (p : Pfx) -- `$2F $74` FILU, R630
  | mvnfu (p : Pfx) -- `$2F $94` MVNFU, R633
  | mvpfu (p : Pfx) -- `$2F $B4` MVPFU, R635
  | wai (p : Pfx) -- `$2F $D1` WAI, R636
  | mvntu (p : Pfx) -- `$2F $D4` MVNTU, R632
  | stp (p : Pfx) -- `$2F $F1` STP, R637
  | mvptu (p : Pfx) -- `$2F $F4` MVPTU, R634
  -- QUICK page
  | inyQuick (p : Pfx) (cnt : BitVec 3) -- `$4F $00` INY #n, R441
  | deyQuick (p : Pfx) (cnt : BitVec 3) -- `$4F $80` DEY #n, R442
  | inxQuick (p : Pfx) (cnt : BitVec 3) -- `$4F $01` INX #n, R443
  | dexQuick (p : Pfx) (cnt : BitVec 3) -- `$4F $81` DEX #n, R444
  | incQuick (p : Pfx) (cnt : BitVec 3) -- `$4F $02` INC #n, R445
  | decQuick (p : Pfx) (cnt : BitVec 3) -- `$4F $82` DEC #n, R446
  | rolQuick (p : Pfx) (cnt : BitVec 3) -- `$4F $03` ROL #n, R447
  | rorQuick (p : Pfx) (cnt : BitVec 3) -- `$4F $83` ROR #n, R448
  | aslQuick (p : Pfx) (cnt : BitVec 3) -- `$4F $04` ASL #n, R449
  | lsrQuick (p : Pfx) (cnt : BitVec 3) -- `$4F $84` LSR #n, R450
  | rdlQuick (p : Pfx) (cnt : BitVec 3) -- `$4F $05` RDL #n, R451
  | rdrQuick (p : Pfx) (cnt : BitVec 3) -- `$4F $85` RDR #n, R452
  | incQuickE (p : Pfx) (cnt : BitVec 3) -- `$4F $06` INC #n,(E), R458
  | decQuickE (p : Pfx) (cnt : BitVec 3) -- `$4F $86` DEC #n,(E), R459
  | rolQuickE (p : Pfx) (cnt : BitVec 3) -- `$4F $07` ROL #n,(E), R460
  | rorQuickE (p : Pfx) (cnt : BitVec 3) -- `$4F $87` ROR #n,(E), R461
  | rdlQuickE (p : Pfx) (cnt : BitVec 3) -- `$4F $08` RDL #n,(E), R462
  | rdrQuickE (p : Pfx) (cnt : BitVec 3) -- `$4F $88` RDR #n,(E), R463
  | aslQuickE (p : Pfx) (cnt : BitVec 3) -- `$4F $09` ASL #n,(E), R464
  | lsrQuickE (p : Pfx) (cnt : BitVec 3) -- `$4F $89` LSR #n,(E), R465
  | slxQuick (p : Pfx) (cnt : BitVec 3) -- `$4F $0A` SLX #n, R454
  | srxQuick (p : Pfx) (cnt : BitVec 3) -- `$4F $8A` SRX #n, R455
  | slyQuick (p : Pfx) (cnt : BitVec 3) -- `$4F $0B` SLY #n, R456
  | sryQuick (p : Pfx) (cnt : BitVec 3) -- `$4F $8B` SRY #n, R457
  | asrQuick (p : Pfx) (cnt : BitVec 3) -- `$4F $0C` ASR #n, R453
  | asrQuickE (p : Pfx) (cnt : BitVec 3) -- `$4F $8C` ASR #n,(E), R466
  | incQuickZp (p : Pfx) (op : Word) (cnt : BitVec 3) -- `$4F $0D` INC #n,zp, R467
  | decQuickZp (p : Pfx) (op : Word) (cnt : BitVec 3) -- `$4F $8D` DEC #n,zp, R468
  | rolQuickZp (p : Pfx) (op : Word) (cnt : BitVec 3) -- `$4F $0E` ROL #n,zp, R469
  | rorQuickZp (p : Pfx) (op : Word) (cnt : BitVec 3) -- `$4F $8E` ROR #n,zp, R470
  | aslQuickZp (p : Pfx) (op : Word) (cnt : BitVec 3) -- `$4F $0F` ASL #n,zp, R471
  | lsrQuickZp (p : Pfx) (op : Word) (cnt : BitVec 3) -- `$4F $8F` LSR #n,zp, R472
deriving DecidableEq, Repr

end Sys2Proof
end

