-- ==== Sys2Proof/Machine/Rows.lean ====
section
/-! DEFINITION. The opcode table: the row of every instruction (spec/30_encoding.md R172 to R177), the lengths of its
operand (R166) and which prefix bytes may precede it (R165). -/

namespace Sys2Proof

/-- Prefix bits applicable: none. -/
def takesNone : Applicable := { }
/-- Prefix bits applicable: NF, RS, UM, OF, LE, AM. -/
def takesNRUOLA : Applicable := { nf := true, rs := true, um := true, ofs := true, le := true, am := true }
/-- Prefix bits applicable: NF, RS, UM, OF, AM. -/
def takesNRUOA : Applicable := { nf := true, rs := true, um := true, ofs := true, am := true }
/-- Prefix bits applicable: NF, RS, LE. -/
def takesNRL : Applicable := { nf := true, rs := true, le := true }
/-- Prefix bits applicable: NF, RS. -/
def takesNR : Applicable := { nf := true, rs := true }
/-- Prefix bits applicable: RS. -/
def takesR : Applicable := { rs := true }
/-- Prefix bits applicable: RS, UM, OF, AM. -/
def takesRUOA : Applicable := { rs := true, um := true, ofs := true, am := true }
/-- Prefix bits applicable: RS, AM. -/
def takesRA : Applicable := { rs := true, am := true }
/-- Prefix bits applicable: RS, UM. -/
def takesRU : Applicable := { rs := true, um := true }
/-- Prefix bits applicable: UM, OF, AM. -/
def takesUOA : Applicable := { um := true, ofs := true, am := true }
/-- Prefix bits applicable: NF, RS, UM, LE. -/
def takesNRUL : Applicable := { nf := true, rs := true, um := true, le := true }
/-- Prefix bits applicable: RS, UM, LE. -/
def takesRUL : Applicable := { rs := true, um := true, le := true }
/-- Prefix bits applicable: RS, LE. -/
def takesRL : Applicable := { rs := true, le := true }
/-- Prefix bits applicable: RS, UM, OF, LE, AM. -/
def takesRUOLA : Applicable := { rs := true, um := true, ofs := true, le := true, am := true }
/-- Prefix bits applicable: NF, UM, OF, AM. -/
def takesNUOA : Applicable := { nf := true, um := true, ofs := true, am := true }
/-- Prefix bits applicable: UM. -/
def takesU : Applicable := { um := true }
/-- Prefix bits applicable: NF, RS, UM. -/
def takesNRU : Applicable := { nf := true, rs := true, um := true }
/-- Prefix bits applicable: NF, UM. -/
def takesNU : Applicable := { nf := true, um := true }
/-- Prefix bits applicable: NF. -/
def takesN : Applicable := { nf := true }
/-- Prefix bits applicable: OF, AM. -/
def takesOA : Applicable := { ofs := true, am := true }

/-- The row of an instruction and the fields it carries. -/
def Instr.view : Instr → View
  | .brk p => { row := { page := .std, code := 0x00, format := .implied, takes := takesNone }, pfx := p, cnt := 0, op := 0 }
  | .oraIndZpX p op => { row := { page := .std, code := 0x01, format := .indZpX, takes := takesNRUOLA }, pfx := p, cnt := 0, op := op }
  | .ldaZpY p op => { row := { page := .std, code := 0x02, format := .zpY, takes := takesNRUOLA }, pfx := p, cnt := 0, op := op }
  | .tsbZp p op => { row := { page := .std, code := 0x04, format := .zp, takes := takesNRUOA }, pfx := p, cnt := 0, op := op }
  | .oraZp p op => { row := { page := .std, code := 0x05, format := .zp, takes := takesNRUOLA }, pfx := p, cnt := 0, op := op }
  | .aslZp p op => { row := { page := .std, code := 0x06, format := .zp, takes := takesNRUOA }, pfx := p, cnt := 0, op := op }
  | .php p => { row := { page := .std, code := 0x08, format := .implied, takes := takesNone }, pfx := p, cnt := 0, op := 0 }
  | .oraImm p op => { row := { page := .std, code := 0x09, format := .imm, takes := takesNRL }, pfx := p, cnt := 0, op := op }
  | .aslA p => { row := { page := .std, code := 0x0A, format := .accum, takes := takesNR }, pfx := p, cnt := 0, op := 0 }
  | .tsbAbs p op => { row := { page := .std, code := 0x0C, format := .abs, takes := takesNRUOA }, pfx := p, cnt := 0, op := op }
  | .oraAbs p op => { row := { page := .std, code := 0x0D, format := .abs, takes := takesNRUOLA }, pfx := p, cnt := 0, op := op }
  | .aslAbs p op => { row := { page := .std, code := 0x0E, format := .abs, takes := takesNRUOA }, pfx := p, cnt := 0, op := op }
  | .bpl p op => { row := { page := .std, code := 0x10, format := .rel, takes := takesR }, pfx := p, cnt := 0, op := op }
  | .oraIndZpY p op => { row := { page := .std, code := 0x11, format := .indZpY, takes := takesNRUOLA }, pfx := p, cnt := 0, op := op }
  | .oraIndZp p op => { row := { page := .std, code := 0x12, format := .indZp, takes := takesNRUOLA }, pfx := p, cnt := 0, op := op }
  | .trbZp p op => { row := { page := .std, code := 0x14, format := .zp, takes := takesNRUOA }, pfx := p, cnt := 0, op := op }
  | .oraZpX p op => { row := { page := .std, code := 0x15, format := .zpX, takes := takesNRUOLA }, pfx := p, cnt := 0, op := op }
  | .aslZpX p op => { row := { page := .std, code := 0x16, format := .zpX, takes := takesNRUOA }, pfx := p, cnt := 0, op := op }
  | .clc p => { row := { page := .std, code := 0x18, format := .implied, takes := takesNone }, pfx := p, cnt := 0, op := 0 }
  | .oraAbsY p op => { row := { page := .std, code := 0x19, format := .absY, takes := takesNRUOLA }, pfx := p, cnt := 0, op := op }
  | .incA p => { row := { page := .std, code := 0x1A, format := .accum, takes := takesNR }, pfx := p, cnt := 0, op := 0 }
  | .trbAbs p op => { row := { page := .std, code := 0x1C, format := .abs, takes := takesNRUOA }, pfx := p, cnt := 0, op := op }
  | .oraAbsX p op => { row := { page := .std, code := 0x1D, format := .absX, takes := takesNRUOLA }, pfx := p, cnt := 0, op := op }
  | .aslAbsX p op => { row := { page := .std, code := 0x1E, format := .absX, takes := takesNRUOA }, pfx := p, cnt := 0, op := op }
  | .aslAbsY p op => { row := { page := .std, code := 0x1F, format := .absY, takes := takesNRUOA }, pfx := p, cnt := 0, op := op }
  | .jsrAbs p op => { row := { page := .std, code := 0x20, format := .abs, takes := takesRUOA }, pfx := p, cnt := 0, op := op }
  | .andIndZpX p op => { row := { page := .std, code := 0x21, format := .indZpX, takes := takesNRUOLA }, pfx := p, cnt := 0, op := op }
  | .staZpY p op => { row := { page := .std, code := 0x22, format := .zpY, takes := takesRUOA }, pfx := p, cnt := 0, op := op }
  | .bitZp p op => { row := { page := .std, code := 0x24, format := .zp, takes := takesNRUOLA }, pfx := p, cnt := 0, op := op }
  | .andZp p op => { row := { page := .std, code := 0x25, format := .zp, takes := takesNRUOLA }, pfx := p, cnt := 0, op := op }
  | .rolZp p op => { row := { page := .std, code := 0x26, format := .zp, takes := takesNRUOA }, pfx := p, cnt := 0, op := op }
  | .plp p => { row := { page := .std, code := 0x28, format := .implied, takes := takesNone }, pfx := p, cnt := 0, op := 0 }
  | .andImm p op => { row := { page := .std, code := 0x29, format := .imm, takes := takesNRL }, pfx := p, cnt := 0, op := op }
  | .rolA p => { row := { page := .std, code := 0x2A, format := .accum, takes := takesNR }, pfx := p, cnt := 0, op := 0 }
  | .bitAbs p op => { row := { page := .std, code := 0x2C, format := .abs, takes := takesNRUOLA }, pfx := p, cnt := 0, op := op }
  | .andAbs p op => { row := { page := .std, code := 0x2D, format := .abs, takes := takesNRUOLA }, pfx := p, cnt := 0, op := op }
  | .rolAbs p op => { row := { page := .std, code := 0x2E, format := .abs, takes := takesNRUOA }, pfx := p, cnt := 0, op := op }
  | .bmi p op => { row := { page := .std, code := 0x30, format := .rel, takes := takesR }, pfx := p, cnt := 0, op := op }
  | .andIndZpY p op => { row := { page := .std, code := 0x31, format := .indZpY, takes := takesNRUOLA }, pfx := p, cnt := 0, op := op }
  | .andIndZp p op => { row := { page := .std, code := 0x32, format := .indZp, takes := takesNRUOLA }, pfx := p, cnt := 0, op := op }
  | .bitZpX p op => { row := { page := .std, code := 0x34, format := .zpX, takes := takesNRUOLA }, pfx := p, cnt := 0, op := op }
  | .andZpX p op => { row := { page := .std, code := 0x35, format := .zpX, takes := takesNRUOLA }, pfx := p, cnt := 0, op := op }
  | .rolZpX p op => { row := { page := .std, code := 0x36, format := .zpX, takes := takesNRUOA }, pfx := p, cnt := 0, op := op }
  | .sec p => { row := { page := .std, code := 0x38, format := .implied, takes := takesNone }, pfx := p, cnt := 0, op := 0 }
  | .andAbsY p op => { row := { page := .std, code := 0x39, format := .absY, takes := takesNRUOLA }, pfx := p, cnt := 0, op := op }
  | .decA p => { row := { page := .std, code := 0x3A, format := .accum, takes := takesNR }, pfx := p, cnt := 0, op := 0 }
  | .bitAbsX p op => { row := { page := .std, code := 0x3C, format := .absX, takes := takesNRUOLA }, pfx := p, cnt := 0, op := op }
  | .andAbsX p op => { row := { page := .std, code := 0x3D, format := .absX, takes := takesNRUOLA }, pfx := p, cnt := 0, op := op }
  | .rolAbsX p op => { row := { page := .std, code := 0x3E, format := .absX, takes := takesNRUOA }, pfx := p, cnt := 0, op := op }
  | .rolAbsY p op => { row := { page := .std, code := 0x3F, format := .absY, takes := takesNRUOA }, pfx := p, cnt := 0, op := op }
  | .rti p => { row := { page := .std, code := 0x40, format := .implied, takes := takesNone }, pfx := p, cnt := 0, op := 0 }
  | .eorIndZpX p op => { row := { page := .std, code := 0x41, format := .indZpX, takes := takesNRUOLA }, pfx := p, cnt := 0, op := op }
  | .ldaIndAbsY p op => { row := { page := .std, code := 0x42, format := .indAbsY, takes := takesNRUOLA }, pfx := p, cnt := 0, op := op }
  | .bsrRelWide p op => { row := { page := .std, code := 0x44, format := .relWideAm, takes := takesRA }, pfx := p, cnt := 0, op := op }
  | .eorZp p op => { row := { page := .std, code := 0x45, format := .zp, takes := takesNRUOLA }, pfx := p, cnt := 0, op := op }
  | .lsrZp p op => { row := { page := .std, code := 0x46, format := .zp, takes := takesNRUOA }, pfx := p, cnt := 0, op := op }
  | .pha p => { row := { page := .std, code := 0x48, format := .implied, takes := takesRU }, pfx := p, cnt := 0, op := 0 }
  | .eorImm p op => { row := { page := .std, code := 0x49, format := .imm, takes := takesNRL }, pfx := p, cnt := 0, op := op }
  | .lsrA p => { row := { page := .std, code := 0x4A, format := .accum, takes := takesNR }, pfx := p, cnt := 0, op := 0 }
  | .jmpAbs p op => { row := { page := .std, code := 0x4C, format := .abs, takes := takesUOA }, pfx := p, cnt := 0, op := op }
  | .eorAbs p op => { row := { page := .std, code := 0x4D, format := .abs, takes := takesNRUOLA }, pfx := p, cnt := 0, op := op }
  | .lsrAbs p op => { row := { page := .std, code := 0x4E, format := .abs, takes := takesNRUOA }, pfx := p, cnt := 0, op := op }
  | .bvc p op => { row := { page := .std, code := 0x50, format := .rel, takes := takesR }, pfx := p, cnt := 0, op := op }
  | .eorIndZpY p op => { row := { page := .std, code := 0x51, format := .indZpY, takes := takesNRUOLA }, pfx := p, cnt := 0, op := op }
  | .eorIndZp p op => { row := { page := .std, code := 0x52, format := .indZp, takes := takesNRUOLA }, pfx := p, cnt := 0, op := op }
  | .eorZpX p op => { row := { page := .std, code := 0x55, format := .zpX, takes := takesNRUOLA }, pfx := p, cnt := 0, op := op }
  | .lsrZpX p op => { row := { page := .std, code := 0x56, format := .zpX, takes := takesNRUOA }, pfx := p, cnt := 0, op := op }
  | .cli p => { row := { page := .std, code := 0x58, format := .implied, takes := takesNone }, pfx := p, cnt := 0, op := 0 }
  | .eorAbsY p op => { row := { page := .std, code := 0x59, format := .absY, takes := takesNRUOLA }, pfx := p, cnt := 0, op := op }
  | .phy p => { row := { page := .std, code := 0x5A, format := .implied, takes := takesRU }, pfx := p, cnt := 0, op := 0 }
  | .eorAbsX p op => { row := { page := .std, code := 0x5D, format := .absX, takes := takesNRUOLA }, pfx := p, cnt := 0, op := op }
  | .lsrAbsX p op => { row := { page := .std, code := 0x5E, format := .absX, takes := takesNRUOA }, pfx := p, cnt := 0, op := op }
  | .lsrAbsY p op => { row := { page := .std, code := 0x5F, format := .absY, takes := takesNRUOA }, pfx := p, cnt := 0, op := op }
  | .rts p => { row := { page := .std, code := 0x60, format := .implied, takes := takesR }, pfx := p, cnt := 0, op := 0 }
  | .adcIndZpX p op => { row := { page := .std, code := 0x61, format := .indZpX, takes := takesNRUOLA }, pfx := p, cnt := 0, op := op }
  | .ldaIndAbsX p op => { row := { page := .std, code := 0x62, format := .indAbsX, takes := takesNRUOLA }, pfx := p, cnt := 0, op := op }
  | .stzZp p op => { row := { page := .std, code := 0x64, format := .zp, takes := takesRUOA }, pfx := p, cnt := 0, op := op }
  | .adcZp p op => { row := { page := .std, code := 0x65, format := .zp, takes := takesNRUOLA }, pfx := p, cnt := 0, op := op }
  | .rorZp p op => { row := { page := .std, code := 0x66, format := .zp, takes := takesNRUOA }, pfx := p, cnt := 0, op := op }
  | .pla p => { row := { page := .std, code := 0x68, format := .implied, takes := takesNRUL }, pfx := p, cnt := 0, op := 0 }
  | .adcImm p op => { row := { page := .std, code := 0x69, format := .imm, takes := takesNRL }, pfx := p, cnt := 0, op := op }
  | .rorA p => { row := { page := .std, code := 0x6A, format := .accum, takes := takesNR }, pfx := p, cnt := 0, op := 0 }
  | .jmpIndAbs p op => { row := { page := .std, code := 0x6C, format := .indAbs, takes := takesUOA }, pfx := p, cnt := 0, op := op }
  | .adcAbs p op => { row := { page := .std, code := 0x6D, format := .abs, takes := takesNRUOLA }, pfx := p, cnt := 0, op := op }
  | .rorAbs p op => { row := { page := .std, code := 0x6E, format := .abs, takes := takesNRUOA }, pfx := p, cnt := 0, op := op }
  | .bvs p op => { row := { page := .std, code := 0x70, format := .rel, takes := takesR }, pfx := p, cnt := 0, op := op }
  | .adcIndZpY p op => { row := { page := .std, code := 0x71, format := .indZpY, takes := takesNRUOLA }, pfx := p, cnt := 0, op := op }
  | .adcIndZp p op => { row := { page := .std, code := 0x72, format := .indZp, takes := takesNRUOLA }, pfx := p, cnt := 0, op := op }
  | .stzZpX p op => { row := { page := .std, code := 0x74, format := .zpX, takes := takesRUOA }, pfx := p, cnt := 0, op := op }
  | .adcZpX p op => { row := { page := .std, code := 0x75, format := .zpX, takes := takesNRUOLA }, pfx := p, cnt := 0, op := op }
  | .rorZpX p op => { row := { page := .std, code := 0x76, format := .zpX, takes := takesNRUOA }, pfx := p, cnt := 0, op := op }
  | .sei p => { row := { page := .std, code := 0x78, format := .implied, takes := takesNone }, pfx := p, cnt := 0, op := 0 }
  | .adcAbsY p op => { row := { page := .std, code := 0x79, format := .absY, takes := takesNRUOLA }, pfx := p, cnt := 0, op := op }
  | .ply p => { row := { page := .std, code := 0x7A, format := .implied, takes := takesNRUL }, pfx := p, cnt := 0, op := 0 }
  | .jmpIndAbsX p op => { row := { page := .std, code := 0x7C, format := .indAbsX, takes := takesUOA }, pfx := p, cnt := 0, op := op }
  | .adcAbsX p op => { row := { page := .std, code := 0x7D, format := .absX, takes := takesNRUOLA }, pfx := p, cnt := 0, op := op }
  | .rorAbsX p op => { row := { page := .std, code := 0x7E, format := .absX, takes := takesNRUOA }, pfx := p, cnt := 0, op := op }
  | .rorAbsY p op => { row := { page := .std, code := 0x7F, format := .absY, takes := takesNRUOA }, pfx := p, cnt := 0, op := op }
  | .bra p op => { row := { page := .std, code := 0x80, format := .rel, takes := takesR }, pfx := p, cnt := 0, op := op }
  | .staIndZpX p op => { row := { page := .std, code := 0x81, format := .indZpX, takes := takesRUOA }, pfx := p, cnt := 0, op := op }
  | .bsrRel p op => { row := { page := .std, code := 0x82, format := .relAm, takes := takesRA }, pfx := p, cnt := 0, op := op }
  | .styZp p op => { row := { page := .std, code := 0x84, format := .zp, takes := takesRUOA }, pfx := p, cnt := 0, op := op }
  | .staZp p op => { row := { page := .std, code := 0x85, format := .zp, takes := takesRUOA }, pfx := p, cnt := 0, op := op }
  | .stxZp p op => { row := { page := .std, code := 0x86, format := .zp, takes := takesRUOA }, pfx := p, cnt := 0, op := op }
  | .dey p => { row := { page := .std, code := 0x88, format := .implied, takes := takesNR }, pfx := p, cnt := 0, op := 0 }
  | .bitImm p op => { row := { page := .std, code := 0x89, format := .imm, takes := takesNRL }, pfx := p, cnt := 0, op := op }
  | .txa p => { row := { page := .std, code := 0x8A, format := .implied, takes := takesNRL }, pfx := p, cnt := 0, op := 0 }
  | .styAbs p op => { row := { page := .std, code := 0x8C, format := .abs, takes := takesRUOA }, pfx := p, cnt := 0, op := op }
  | .staAbs p op => { row := { page := .std, code := 0x8D, format := .abs, takes := takesRUOA }, pfx := p, cnt := 0, op := op }
  | .stxAbs p op => { row := { page := .std, code := 0x8E, format := .abs, takes := takesRUOA }, pfx := p, cnt := 0, op := op }
  | .bcc p op => { row := { page := .std, code := 0x90, format := .rel, takes := takesR }, pfx := p, cnt := 0, op := op }
  | .staIndZpY p op => { row := { page := .std, code := 0x91, format := .indZpY, takes := takesRUOA }, pfx := p, cnt := 0, op := op }
  | .staIndZp p op => { row := { page := .std, code := 0x92, format := .indZp, takes := takesRUOA }, pfx := p, cnt := 0, op := op }
  | .styZpX p op => { row := { page := .std, code := 0x94, format := .zpX, takes := takesRUOA }, pfx := p, cnt := 0, op := op }
  | .staZpX p op => { row := { page := .std, code := 0x95, format := .zpX, takes := takesRUOA }, pfx := p, cnt := 0, op := op }
  | .stxZpY p op => { row := { page := .std, code := 0x96, format := .zpY, takes := takesRUOA }, pfx := p, cnt := 0, op := op }
  | .tya p => { row := { page := .std, code := 0x98, format := .implied, takes := takesNRL }, pfx := p, cnt := 0, op := 0 }
  | .staAbsY p op => { row := { page := .std, code := 0x99, format := .absY, takes := takesRUOA }, pfx := p, cnt := 0, op := op }
  | .txs p => { row := { page := .std, code := 0x9A, format := .implied, takes := takesRUL }, pfx := p, cnt := 0, op := 0 }
  | .stzAbs p op => { row := { page := .std, code := 0x9C, format := .abs, takes := takesRUOA }, pfx := p, cnt := 0, op := op }
  | .staAbsX p op => { row := { page := .std, code := 0x9D, format := .absX, takes := takesRUOA }, pfx := p, cnt := 0, op := op }
  | .stzAbsX p op => { row := { page := .std, code := 0x9E, format := .absX, takes := takesRUOA }, pfx := p, cnt := 0, op := op }
  | .styAbsX p op => { row := { page := .std, code := 0x9F, format := .absX, takes := takesRUOA }, pfx := p, cnt := 0, op := op }
  | .ldyImm p op => { row := { page := .std, code := 0xA0, format := .imm, takes := takesNRL }, pfx := p, cnt := 0, op := op }
  | .ldaIndZpX p op => { row := { page := .std, code := 0xA1, format := .indZpX, takes := takesNRUOLA }, pfx := p, cnt := 0, op := op }
  | .ldxImm p op => { row := { page := .std, code := 0xA2, format := .imm, takes := takesNRL }, pfx := p, cnt := 0, op := op }
  | .ldyZp p op => { row := { page := .std, code := 0xA4, format := .zp, takes := takesNRUOLA }, pfx := p, cnt := 0, op := op }
  | .ldaZp p op => { row := { page := .std, code := 0xA5, format := .zp, takes := takesNRUOLA }, pfx := p, cnt := 0, op := op }
  | .ldxZp p op => { row := { page := .std, code := 0xA6, format := .zp, takes := takesNRUOLA }, pfx := p, cnt := 0, op := op }
  | .tay p => { row := { page := .std, code := 0xA8, format := .implied, takes := takesNRL }, pfx := p, cnt := 0, op := 0 }
  | .ldaImm p op => { row := { page := .std, code := 0xA9, format := .imm, takes := takesNRL }, pfx := p, cnt := 0, op := op }
  | .tax p => { row := { page := .std, code := 0xAA, format := .implied, takes := takesNRL }, pfx := p, cnt := 0, op := 0 }
  | .ldyAbs p op => { row := { page := .std, code := 0xAC, format := .abs, takes := takesNRUOLA }, pfx := p, cnt := 0, op := op }
  | .ldaAbs p op => { row := { page := .std, code := 0xAD, format := .abs, takes := takesNRUOLA }, pfx := p, cnt := 0, op := op }
  | .ldxAbs p op => { row := { page := .std, code := 0xAE, format := .abs, takes := takesNRUOLA }, pfx := p, cnt := 0, op := op }
  | .bcs p op => { row := { page := .std, code := 0xB0, format := .rel, takes := takesR }, pfx := p, cnt := 0, op := op }
  | .ldaIndZpY p op => { row := { page := .std, code := 0xB1, format := .indZpY, takes := takesNRUOLA }, pfx := p, cnt := 0, op := op }
  | .ldaIndZp p op => { row := { page := .std, code := 0xB2, format := .indZp, takes := takesNRUOLA }, pfx := p, cnt := 0, op := op }
  | .ldyZpX p op => { row := { page := .std, code := 0xB4, format := .zpX, takes := takesNRUOLA }, pfx := p, cnt := 0, op := op }
  | .ldaZpX p op => { row := { page := .std, code := 0xB5, format := .zpX, takes := takesNRUOLA }, pfx := p, cnt := 0, op := op }
  | .ldxZpY p op => { row := { page := .std, code := 0xB6, format := .zpY, takes := takesNRUOLA }, pfx := p, cnt := 0, op := op }
  | .clv p => { row := { page := .std, code := 0xB8, format := .implied, takes := takesNone }, pfx := p, cnt := 0, op := 0 }
  | .ldaAbsY p op => { row := { page := .std, code := 0xB9, format := .absY, takes := takesNRUOLA }, pfx := p, cnt := 0, op := op }
  | .tsx p => { row := { page := .std, code := 0xBA, format := .implied, takes := takesNRUL }, pfx := p, cnt := 0, op := 0 }
  | .ldyAbsX p op => { row := { page := .std, code := 0xBC, format := .absX, takes := takesNRUOLA }, pfx := p, cnt := 0, op := op }
  | .ldaAbsX p op => { row := { page := .std, code := 0xBD, format := .absX, takes := takesNRUOLA }, pfx := p, cnt := 0, op := op }
  | .ldxAbsY p op => { row := { page := .std, code := 0xBE, format := .absY, takes := takesNRUOLA }, pfx := p, cnt := 0, op := op }
  | .stxAbsY p op => { row := { page := .std, code := 0xBF, format := .absY, takes := takesRUOA }, pfx := p, cnt := 0, op := op }
  | .cpyImm p op => { row := { page := .std, code := 0xC0, format := .imm, takes := takesRL }, pfx := p, cnt := 0, op := op }
  | .cmpIndZpX p op => { row := { page := .std, code := 0xC1, format := .indZpX, takes := takesRUOLA }, pfx := p, cnt := 0, op := op }
  | .staIndAbsY p op => { row := { page := .std, code := 0xC2, format := .indAbsY, takes := takesRUOA }, pfx := p, cnt := 0, op := op }
  | .cpyZp p op => { row := { page := .std, code := 0xC4, format := .zp, takes := takesRUOLA }, pfx := p, cnt := 0, op := op }
  | .cmpZp p op => { row := { page := .std, code := 0xC5, format := .zp, takes := takesRUOLA }, pfx := p, cnt := 0, op := op }
  | .decZp p op => { row := { page := .std, code := 0xC6, format := .zp, takes := takesNRUOA }, pfx := p, cnt := 0, op := op }
  | .iny p => { row := { page := .std, code := 0xC8, format := .implied, takes := takesNR }, pfx := p, cnt := 0, op := 0 }
  | .cmpImm p op => { row := { page := .std, code := 0xC9, format := .imm, takes := takesRL }, pfx := p, cnt := 0, op := op }
  | .dex p => { row := { page := .std, code := 0xCA, format := .implied, takes := takesNR }, pfx := p, cnt := 0, op := 0 }
  | .cpyAbs p op => { row := { page := .std, code := 0xCC, format := .abs, takes := takesRUOLA }, pfx := p, cnt := 0, op := op }
  | .cmpAbs p op => { row := { page := .std, code := 0xCD, format := .abs, takes := takesRUOLA }, pfx := p, cnt := 0, op := op }
  | .decAbs p op => { row := { page := .std, code := 0xCE, format := .abs, takes := takesNRUOA }, pfx := p, cnt := 0, op := op }
  | .bne p op => { row := { page := .std, code := 0xD0, format := .rel, takes := takesR }, pfx := p, cnt := 0, op := op }
  | .cmpIndZpY p op => { row := { page := .std, code := 0xD1, format := .indZpY, takes := takesRUOLA }, pfx := p, cnt := 0, op := op }
  | .cmpIndZp p op => { row := { page := .std, code := 0xD2, format := .indZp, takes := takesRUOLA }, pfx := p, cnt := 0, op := op }
  | .cmpZpX p op => { row := { page := .std, code := 0xD5, format := .zpX, takes := takesRUOLA }, pfx := p, cnt := 0, op := op }
  | .decZpX p op => { row := { page := .std, code := 0xD6, format := .zpX, takes := takesNRUOA }, pfx := p, cnt := 0, op := op }
  | .cld p => { row := { page := .std, code := 0xD8, format := .implied, takes := takesNone }, pfx := p, cnt := 0, op := 0 }
  | .cmpAbsY p op => { row := { page := .std, code := 0xD9, format := .absY, takes := takesRUOLA }, pfx := p, cnt := 0, op := op }
  | .phx p => { row := { page := .std, code := 0xDA, format := .implied, takes := takesRU }, pfx := p, cnt := 0, op := 0 }
  | .jsrIndAbs p op => { row := { page := .std, code := 0xDC, format := .indAbs, takes := takesRUOA }, pfx := p, cnt := 0, op := op }
  | .cmpAbsX p op => { row := { page := .std, code := 0xDD, format := .absX, takes := takesRUOLA }, pfx := p, cnt := 0, op := op }
  | .decAbsX p op => { row := { page := .std, code := 0xDE, format := .absX, takes := takesNRUOA }, pfx := p, cnt := 0, op := op }
  | .decAbsY p op => { row := { page := .std, code := 0xDF, format := .absY, takes := takesNRUOA }, pfx := p, cnt := 0, op := op }
  | .cpxImm p op => { row := { page := .std, code := 0xE0, format := .imm, takes := takesRL }, pfx := p, cnt := 0, op := op }
  | .sbcIndZpX p op => { row := { page := .std, code := 0xE1, format := .indZpX, takes := takesNRUOLA }, pfx := p, cnt := 0, op := op }
  | .staIndAbsX p op => { row := { page := .std, code := 0xE2, format := .indAbsX, takes := takesRUOA }, pfx := p, cnt := 0, op := op }
  | .cpxZp p op => { row := { page := .std, code := 0xE4, format := .zp, takes := takesRUOLA }, pfx := p, cnt := 0, op := op }
  | .sbcZp p op => { row := { page := .std, code := 0xE5, format := .zp, takes := takesNRUOLA }, pfx := p, cnt := 0, op := op }
  | .incZp p op => { row := { page := .std, code := 0xE6, format := .zp, takes := takesNRUOA }, pfx := p, cnt := 0, op := op }
  | .inx p => { row := { page := .std, code := 0xE8, format := .implied, takes := takesNR }, pfx := p, cnt := 0, op := 0 }
  | .sbcImm p op => { row := { page := .std, code := 0xE9, format := .imm, takes := takesNRL }, pfx := p, cnt := 0, op := op }
  | .nop p => { row := { page := .std, code := 0xEA, format := .implied, takes := takesNone }, pfx := p, cnt := 0, op := 0 }
  | .cpxAbs p op => { row := { page := .std, code := 0xEC, format := .abs, takes := takesRUOLA }, pfx := p, cnt := 0, op := op }
  | .sbcAbs p op => { row := { page := .std, code := 0xED, format := .abs, takes := takesNRUOLA }, pfx := p, cnt := 0, op := op }
  | .incAbs p op => { row := { page := .std, code := 0xEE, format := .abs, takes := takesNRUOA }, pfx := p, cnt := 0, op := op }
  | .beq p op => { row := { page := .std, code := 0xF0, format := .rel, takes := takesR }, pfx := p, cnt := 0, op := op }
  | .sbcIndZpY p op => { row := { page := .std, code := 0xF1, format := .indZpY, takes := takesNRUOLA }, pfx := p, cnt := 0, op := op }
  | .sbcIndZp p op => { row := { page := .std, code := 0xF2, format := .indZp, takes := takesNRUOLA }, pfx := p, cnt := 0, op := op }
  | .trp p op => { row := { page := .std, code := 0xF4, format := .imm8, takes := takesNone }, pfx := p, cnt := 0, op := op }
  | .sbcZpX p op => { row := { page := .std, code := 0xF5, format := .zpX, takes := takesNRUOLA }, pfx := p, cnt := 0, op := op }
  | .incZpX p op => { row := { page := .std, code := 0xF6, format := .zpX, takes := takesNRUOA }, pfx := p, cnt := 0, op := op }
  | .sed p => { row := { page := .std, code := 0xF8, format := .implied, takes := takesNone }, pfx := p, cnt := 0, op := 0 }
  | .sbcAbsY p op => { row := { page := .std, code := 0xF9, format := .absY, takes := takesNRUOLA }, pfx := p, cnt := 0, op := op }
  | .plx p => { row := { page := .std, code := 0xFA, format := .implied, takes := takesNRUL }, pfx := p, cnt := 0, op := 0 }
  | .jsrIndAbsX p op => { row := { page := .std, code := 0xFC, format := .indAbsX, takes := takesRUOA }, pfx := p, cnt := 0, op := op }
  | .sbcAbsX p op => { row := { page := .std, code := 0xFD, format := .absX, takes := takesNRUOLA }, pfx := p, cnt := 0, op := op }
  | .incAbsX p op => { row := { page := .std, code := 0xFE, format := .absX, takes := takesNRUOA }, pfx := p, cnt := 0, op := op }
  | .incAbsY p op => { row := { page := .std, code := 0xFF, format := .absY, takes := takesNRUOA }, pfx := p, cnt := 0, op := op }
  | .oraQindZpX p op => { row := { page := .std, code := 0x03, format := .qindZpX, takes := takesNRUOLA, dup := true }, pfx := p, cnt := 0, op := op }
  | .jmpQindAbs p op => { row := { page := .std, code := 0x07, format := .qindAbs, takes := takesUOA, dup := true }, pfx := p, cnt := 0, op := op }
  | .oraQindZpY p op => { row := { page := .std, code := 0x13, format := .qindZpY, takes := takesNRUOLA, dup := true }, pfx := p, cnt := 0, op := op }
  | .oraQindZp p op => { row := { page := .std, code := 0x17, format := .qindZp, takes := takesNRUOLA, dup := true }, pfx := p, cnt := 0, op := op }
  | .andQindZpX p op => { row := { page := .std, code := 0x23, format := .qindZpX, takes := takesNRUOLA, dup := true }, pfx := p, cnt := 0, op := op }
  | .jmpQindAbsX p op => { row := { page := .std, code := 0x27, format := .qindAbsX, takes := takesUOA, dup := true }, pfx := p, cnt := 0, op := op }
  | .andQindZpY p op => { row := { page := .std, code := 0x33, format := .qindZpY, takes := takesNRUOLA, dup := true }, pfx := p, cnt := 0, op := op }
  | .andQindZp p op => { row := { page := .std, code := 0x37, format := .qindZp, takes := takesNRUOLA, dup := true }, pfx := p, cnt := 0, op := op }
  | .eorQindZpX p op => { row := { page := .std, code := 0x43, format := .qindZpX, takes := takesNRUOLA, dup := true }, pfx := p, cnt := 0, op := op }
  | .ldaQindAbsY p op => { row := { page := .std, code := 0x47, format := .qindAbsY, takes := takesNRUOLA, dup := true }, pfx := p, cnt := 0, op := op }
  | .eorQindZpY p op => { row := { page := .std, code := 0x53, format := .qindZpY, takes := takesNRUOLA, dup := true }, pfx := p, cnt := 0, op := op }
  | .eorQindZp p op => { row := { page := .std, code := 0x57, format := .qindZp, takes := takesNRUOLA, dup := true }, pfx := p, cnt := 0, op := op }
  | .adcQindZpX p op => { row := { page := .std, code := 0x63, format := .qindZpX, takes := takesNRUOLA, dup := true }, pfx := p, cnt := 0, op := op }
  | .ldaQindAbsX p op => { row := { page := .std, code := 0x67, format := .qindAbsX, takes := takesNRUOLA, dup := true }, pfx := p, cnt := 0, op := op }
  | .adcQindZpY p op => { row := { page := .std, code := 0x73, format := .qindZpY, takes := takesNRUOLA, dup := true }, pfx := p, cnt := 0, op := op }
  | .adcQindZp p op => { row := { page := .std, code := 0x77, format := .qindZp, takes := takesNRUOLA, dup := true }, pfx := p, cnt := 0, op := op }
  | .staQindZpX p op => { row := { page := .std, code := 0x83, format := .qindZpX, takes := takesRUOA, dup := true }, pfx := p, cnt := 0, op := op }
  | .jsrQindAbs p op => { row := { page := .std, code := 0x87, format := .qindAbs, takes := takesRUOA, dup := true }, pfx := p, cnt := 0, op := op }
  | .staQindZpY p op => { row := { page := .std, code := 0x93, format := .qindZpY, takes := takesRUOA, dup := true }, pfx := p, cnt := 0, op := op }
  | .staQindZp p op => { row := { page := .std, code := 0x97, format := .qindZp, takes := takesRUOA, dup := true }, pfx := p, cnt := 0, op := op }
  | .ldaQindZpX p op => { row := { page := .std, code := 0xA3, format := .qindZpX, takes := takesNRUOLA, dup := true }, pfx := p, cnt := 0, op := op }
  | .jsrQindAbsX p op => { row := { page := .std, code := 0xA7, format := .qindAbsX, takes := takesRUOA, dup := true }, pfx := p, cnt := 0, op := op }
  | .ldaQindZpY p op => { row := { page := .std, code := 0xB3, format := .qindZpY, takes := takesNRUOLA, dup := true }, pfx := p, cnt := 0, op := op }
  | .ldaQindZp p op => { row := { page := .std, code := 0xB7, format := .qindZp, takes := takesNRUOLA, dup := true }, pfx := p, cnt := 0, op := op }
  | .cmpQindZpX p op => { row := { page := .std, code := 0xC3, format := .qindZpX, takes := takesRUOLA, dup := true }, pfx := p, cnt := 0, op := op }
  | .staQindAbsY p op => { row := { page := .std, code := 0xC7, format := .qindAbsY, takes := takesRUOA, dup := true }, pfx := p, cnt := 0, op := op }
  | .cmpQindZpY p op => { row := { page := .std, code := 0xD3, format := .qindZpY, takes := takesRUOLA, dup := true }, pfx := p, cnt := 0, op := op }
  | .cmpQindZp p op => { row := { page := .std, code := 0xD7, format := .qindZp, takes := takesRUOLA, dup := true }, pfx := p, cnt := 0, op := op }
  | .sbcQindZpX p op => { row := { page := .std, code := 0xE3, format := .qindZpX, takes := takesNRUOLA, dup := true }, pfx := p, cnt := 0, op := op }
  | .staQindAbsX p op => { row := { page := .std, code := 0xE7, format := .qindAbsX, takes := takesRUOA, dup := true }, pfx := p, cnt := 0, op := op }
  | .sbcQindZpY p op => { row := { page := .std, code := 0xF3, format := .qindZpY, takes := takesNRUOLA, dup := true }, pfx := p, cnt := 0, op := op }
  | .sbcQindZp p op => { row := { page := .std, code := 0xF7, format := .qindZp, takes := takesNRUOLA, dup := true }, pfx := p, cnt := 0, op := op }
  | .leaZpY p op => { row := { page := .ext, code := 0x02, format := .zpY, takes := takesNUOA }, pfx := p, cnt := 0, op := op }
  | .mvn p => { row := { page := .ext, code := 0x04, format := .implied, takes := takesNone }, pfx := p, cnt := 0, op := 0 }
  | .asrZp p op => { row := { page := .ext, code := 0x06, format := .zp, takes := takesNRUOA }, pfx := p, cnt := 0, op := op }
  | .phe p => { row := { page := .ext, code := 0x08, format := .implied, takes := takesU }, pfx := p, cnt := 0, op := 0 }
  | .oraE p => { row := { page := .ext, code := 0x09, format := .eInd, takes := takesNRUL }, pfx := p, cnt := 0, op := 0 }
  | .asrA p => { row := { page := .ext, code := 0x0A, format := .accum, takes := takesNR }, pfx := p, cnt := 0, op := 0 }
  | .tsbE p => { row := { page := .ext, code := 0x0C, format := .eInd, takes := takesNRU }, pfx := p, cnt := 0, op := 0 }
  | .aslE p => { row := { page := .ext, code := 0x0D, format := .eInd, takes := takesNRU }, pfx := p, cnt := 0, op := 0 }
  | .asrAbs p op => { row := { page := .ext, code := 0x0E, format := .abs, takes := takesNRUOA }, pfx := p, cnt := 0, op := op }
  | .mvp p => { row := { page := .ext, code := 0x14, format := .implied, takes := takesNone }, pfx := p, cnt := 0, op := 0 }
  | .asrZpX p op => { row := { page := .ext, code := 0x16, format := .zpX, takes := takesNRUOA }, pfx := p, cnt := 0, op := op }
  | .trbE p => { row := { page := .ext, code := 0x1C, format := .eInd, takes := takesNRU }, pfx := p, cnt := 0, op := 0 }
  | .asrE p => { row := { page := .ext, code := 0x1D, format := .eInd, takes := takesNRU }, pfx := p, cnt := 0, op := 0 }
  | .asrAbsX p op => { row := { page := .ext, code := 0x1E, format := .absX, takes := takesNRUOA }, pfx := p, cnt := 0, op := op }
  | .asrAbsY p op => { row := { page := .ext, code := 0x1F, format := .absY, takes := takesNRUOA }, pfx := p, cnt := 0, op := op }
  | .jsrE p => { row := { page := .ext, code := 0x20, format := .eInd, takes := takesRU }, pfx := p, cnt := 0, op := 0 }
  | .peaZpY p op => { row := { page := .ext, code := 0x22, format := .zpY, takes := takesUOA }, pfx := p, cnt := 0, op := op }
  | .fil p => { row := { page := .ext, code := 0x24, format := .implied, takes := takesR }, pfx := p, cnt := 0, op := 0 }
  | .adeImm p op => { row := { page := .ext, code := 0x25, format := .imm, takes := takesNRL }, pfx := p, cnt := 0, op := op }
  | .rdlZp p op => { row := { page := .ext, code := 0x26, format := .zp, takes := takesNRUOA }, pfx := p, cnt := 0, op := op }
  | .ple p => { row := { page := .ext, code := 0x28, format := .implied, takes := takesNU }, pfx := p, cnt := 0, op := 0 }
  | .andE p => { row := { page := .ext, code := 0x29, format := .eInd, takes := takesNRUL }, pfx := p, cnt := 0, op := 0 }
  | .rdlA p => { row := { page := .ext, code := 0x2A, format := .accum, takes := takesNR }, pfx := p, cnt := 0, op := 0 }
  | .rolE p => { row := { page := .ext, code := 0x2D, format := .eInd, takes := takesNRU }, pfx := p, cnt := 0, op := 0 }
  | .rdlAbs p op => { row := { page := .ext, code := 0x2E, format := .abs, takes := takesNRUOA }, pfx := p, cnt := 0, op := op }
  | .bitA p => { row := { page := .ext, code := 0x34, format := .accum, takes := takesNR }, pfx := p, cnt := 0, op := 0 }
  | .adeA p => { row := { page := .ext, code := 0x35, format := .accum, takes := takesNR }, pfx := p, cnt := 0, op := 0 }
  | .rdlZpX p op => { row := { page := .ext, code := 0x36, format := .zpX, takes := takesNRUOA }, pfx := p, cnt := 0, op := op }
  | .ldeImm p op => { row := { page := .ext, code := 0x39, format := .imm, takes := takesNRL }, pfx := p, cnt := 0, op := op }
  | .rdlE p => { row := { page := .ext, code := 0x3D, format := .eInd, takes := takesNRU }, pfx := p, cnt := 0, op := 0 }
  | .rdlAbsX p op => { row := { page := .ext, code := 0x3E, format := .absX, takes := takesNRUOA }, pfx := p, cnt := 0, op := op }
  | .rdlAbsY p op => { row := { page := .ext, code := 0x3F, format := .absY, takes := takesNRUOA }, pfx := p, cnt := 0, op := op }
  | .leaIndAbsY p op => { row := { page := .ext, code := 0x42, format := .indAbsY, takes := takesNUOA }, pfx := p, cnt := 0, op := op }
  | .leaRelWide p op => { row := { page := .ext, code := 0x44, format := .relWideAm, takes := takesNUOA }, pfx := p, cnt := 0, op := op }
  | .adsImm p op => { row := { page := .ext, code := 0x45, format := .imm, takes := takesNRL }, pfx := p, cnt := 0, op := op }
  | .phb p => { row := { page := .ext, code := 0x48, format := .implied, takes := takesU }, pfx := p, cnt := 0, op := 0 }
  | .eorE p => { row := { page := .ext, code := 0x49, format := .eInd, takes := takesNRUL }, pfx := p, cnt := 0, op := 0 }
  | .lsrE p => { row := { page := .ext, code := 0x4D, format := .eInd, takes := takesNRU }, pfx := p, cnt := 0, op := 0 }
  | .peaRelWide p op => { row := { page := .ext, code := 0x54, format := .relWideAm, takes := takesUOA }, pfx := p, cnt := 0, op := op }
  | .adsA p => { row := { page := .ext, code := 0x55, format := .accum, takes := takesNR }, pfx := p, cnt := 0, op := 0 }
  | .prb p => { row := { page := .ext, code := 0x58, format := .implied, takes := takesNU }, pfx := p, cnt := 0, op := 0 }
  | .ldbImm p op => { row := { page := .ext, code := 0x59, format := .imm, takes := takesNRL }, pfx := p, cnt := 0, op := op }
  | .leaIndAbsX p op => { row := { page := .ext, code := 0x62, format := .indAbsX, takes := takesNUOA }, pfx := p, cnt := 0, op := op }
  | .rmb p => { row := { page := .ext, code := 0x64, format := .implied, takes := takesU }, pfx := p, cnt := 0, op := 0 }
  | .adbImm p op => { row := { page := .ext, code := 0x65, format := .imm, takes := takesNRL }, pfx := p, cnt := 0, op := op }
  | .rdrZp p op => { row := { page := .ext, code := 0x66, format := .zp, takes := takesNRUOA }, pfx := p, cnt := 0, op := op }
  | .plb p => { row := { page := .ext, code := 0x68, format := .implied, takes := takesNU }, pfx := p, cnt := 0, op := 0 }
  | .adcE p => { row := { page := .ext, code := 0x69, format := .eInd, takes := takesNRUL }, pfx := p, cnt := 0, op := 0 }
  | .rdrA p => { row := { page := .ext, code := 0x6A, format := .accum, takes := takesNR }, pfx := p, cnt := 0, op := 0 }
  | .rorE p => { row := { page := .ext, code := 0x6D, format := .eInd, takes := takesNRU }, pfx := p, cnt := 0, op := 0 }
  | .rdrAbs p op => { row := { page := .ext, code := 0x6E, format := .abs, takes := takesNRUOA }, pfx := p, cnt := 0, op := op }
  | .wmb p => { row := { page := .ext, code := 0x74, format := .implied, takes := takesU }, pfx := p, cnt := 0, op := 0 }
  | .adbA p => { row := { page := .ext, code := 0x75, format := .accum, takes := takesNR }, pfx := p, cnt := 0, op := 0 }
  | .rdrZpX p op => { row := { page := .ext, code := 0x76, format := .zpX, takes := takesNRUOA }, pfx := p, cnt := 0, op := op }
  | .rdrE p => { row := { page := .ext, code := 0x7D, format := .eInd, takes := takesNRU }, pfx := p, cnt := 0, op := 0 }
  | .rdrAbsX p op => { row := { page := .ext, code := 0x7E, format := .absX, takes := takesNRUOA }, pfx := p, cnt := 0, op := op }
  | .rdrAbsY p op => { row := { page := .ext, code := 0x7F, format := .absY, takes := takesNRUOA }, pfx := p, cnt := 0, op := op }
  | .leaRel p op => { row := { page := .ext, code := 0x80, format := .relAm, takes := takesNUOA }, pfx := p, cnt := 0, op := op }
  | .peaIndZpX p op => { row := { page := .ext, code := 0x81, format := .indZpX, takes := takesUOA }, pfx := p, cnt := 0, op := op }
  | .peaRel p op => { row := { page := .ext, code := 0x82, format := .relAm, takes := takesUOA }, pfx := p, cnt := 0, op := op }
  | .scaE p => { row := { page := .ext, code := 0x84, format := .eInd, takes := takesRU }, pfx := p, cnt := 0, op := 0 }
  | .peaZp p op => { row := { page := .ext, code := 0x85, format := .zp, takes := takesUOA }, pfx := p, cnt := 0, op := op }
  | .leaZp p op => { row := { page := .ext, code := 0x86, format := .zp, takes := takesNUOA }, pfx := p, cnt := 0, op := op }
  | .tae p => { row := { page := .ext, code := 0x88, format := .implied, takes := takesNRL }, pfx := p, cnt := 0, op := 0 }
  | .bitE p => { row := { page := .ext, code := 0x89, format := .eInd, takes := takesNRUL }, pfx := p, cnt := 0, op := 0 }
  | .tys p => { row := { page := .ext, code := 0x8A, format := .implied, takes := takesRUL }, pfx := p, cnt := 0, op := 0 }
  | .styE p => { row := { page := .ext, code := 0x8C, format := .eInd, takes := takesRU }, pfx := p, cnt := 0, op := 0 }
  | .staE p => { row := { page := .ext, code := 0x8D, format := .eInd, takes := takesRU }, pfx := p, cnt := 0, op := 0 }
  | .stxE p => { row := { page := .ext, code := 0x8E, format := .eInd, takes := takesRU }, pfx := p, cnt := 0, op := 0 }
  | .peaIndZpY p op => { row := { page := .ext, code := 0x91, format := .indZpY, takes := takesUOA }, pfx := p, cnt := 0, op := op }
  | .peaIndZp p op => { row := { page := .ext, code := 0x92, format := .indZp, takes := takesUOA }, pfx := p, cnt := 0, op := op }
  | .llaE p => { row := { page := .ext, code := 0x94, format := .eInd, takes := takesNRUL }, pfx := p, cnt := 0, op := 0 }
  | .peaZpX p op => { row := { page := .ext, code := 0x95, format := .zpX, takes := takesUOA }, pfx := p, cnt := 0, op := op }
  | .leaZpX p op => { row := { page := .ext, code := 0x96, format := .zpX, takes := takesNUOA }, pfx := p, cnt := 0, op := op }
  | .tea p => { row := { page := .ext, code := 0x98, format := .implied, takes := takesN }, pfx := p, cnt := 0, op := 0 }
  | .peaAbsY p op => { row := { page := .ext, code := 0x99, format := .absY, takes := takesUOA }, pfx := p, cnt := 0, op := op }
  | .sxy p => { row := { page := .ext, code := 0x9A, format := .implied, takes := takesNone }, pfx := p, cnt := 0, op := 0 }
  | .stzE p => { row := { page := .ext, code := 0x9C, format := .eInd, takes := takesRU }, pfx := p, cnt := 0, op := 0 }
  | .stzAbsY p op => { row := { page := .ext, code := 0x9E, format := .absY, takes := takesRUOA }, pfx := p, cnt := 0, op := op }
  | .ldyE p => { row := { page := .ext, code := 0xA0, format := .eInd, takes := takesNRUL }, pfx := p, cnt := 0, op := 0 }
  | .leaIndZpX p op => { row := { page := .ext, code := 0xA1, format := .indZpX, takes := takesNUOA }, pfx := p, cnt := 0, op := op }
  | .ldxE p => { row := { page := .ext, code := 0xA2, format := .eInd, takes := takesNRUL }, pfx := p, cnt := 0, op := 0 }
  | .invA p => { row := { page := .ext, code := 0xA4, format := .accum, takes := takesNRL }, pfx := p, cnt := 0, op := 0 }
  | .sbeImm p op => { row := { page := .ext, code := 0xA5, format := .imm, takes := takesNRL }, pfx := p, cnt := 0, op := op }
  | .ldaE p => { row := { page := .ext, code := 0xA9, format := .eInd, takes := takesNRUL }, pfx := p, cnt := 0, op := 0 }
  | .peaAbs p op => { row := { page := .ext, code := 0xAD, format := .abs, takes := takesUOA }, pfx := p, cnt := 0, op := op }
  | .leaAbs p op => { row := { page := .ext, code := 0xAE, format := .abs, takes := takesNUOA }, pfx := p, cnt := 0, op := op }
  | .leaIndZpY p op => { row := { page := .ext, code := 0xB1, format := .indZpY, takes := takesNUOA }, pfx := p, cnt := 0, op := op }
  | .leaIndZp p op => { row := { page := .ext, code := 0xB2, format := .indZp, takes := takesNUOA }, pfx := p, cnt := 0, op := op }
  | .bcnA p => { row := { page := .ext, code := 0xB4, format := .accum, takes := takesNR }, pfx := p, cnt := 0, op := 0 }
  | .sbeA p => { row := { page := .ext, code := 0xB5, format := .accum, takes := takesNR }, pfx := p, cnt := 0, op := 0 }
  | .seb p => { row := { page := .ext, code := 0xB8, format := .implied, takes := takesNone }, pfx := p, cnt := 0, op := 0 }
  | .leaAbsY p op => { row := { page := .ext, code := 0xB9, format := .absY, takes := takesNUOA }, pfx := p, cnt := 0, op := op }
  | .sax p => { row := { page := .ext, code := 0xBA, format := .implied, takes := takesNone }, pfx := p, cnt := 0, op := 0 }
  | .bcnE p => { row := { page := .ext, code := 0xBC, format := .eInd, takes := takesNR }, pfx := p, cnt := 0, op := 0 }
  | .peaAbsX p op => { row := { page := .ext, code := 0xBD, format := .absX, takes := takesUOA }, pfx := p, cnt := 0, op := op }
  | .leaAbsX p op => { row := { page := .ext, code := 0xBE, format := .absX, takes := takesNUOA }, pfx := p, cnt := 0, op := op }
  | .cpyE p => { row := { page := .ext, code := 0xC0, format := .eInd, takes := takesRUL }, pfx := p, cnt := 0, op := 0 }
  | .peaIndAbsY p op => { row := { page := .ext, code := 0xC2, format := .indAbsY, takes := takesUOA }, pfx := p, cnt := 0, op := op }
  | .extA p => { row := { page := .ext, code := 0xC4, format := .accum, takes := takesNRL }, pfx := p, cnt := 0, op := 0 }
  | .sbsImm p op => { row := { page := .ext, code := 0xC5, format := .imm, takes := takesNRL }, pfx := p, cnt := 0, op := op }
  | .tpa p => { row := { page := .ext, code := 0xC8, format := .implied, takes := takesN }, pfx := p, cnt := 0, op := 0 }
  | .cmpE p => { row := { page := .ext, code := 0xC9, format := .eInd, takes := takesRUL }, pfx := p, cnt := 0, op := 0 }
  | .tsy p => { row := { page := .ext, code := 0xCA, format := .implied, takes := takesNRUL }, pfx := p, cnt := 0, op := 0 }
  | .decE p => { row := { page := .ext, code := 0xCD, format := .eInd, takes := takesNRU }, pfx := p, cnt := 0, op := 0 }
  | .swpA p => { row := { page := .ext, code := 0xD4, format := .accum, takes := takesNR }, pfx := p, cnt := 0, op := 0 }
  | .sbsA p => { row := { page := .ext, code := 0xD5, format := .accum, takes := takesNR }, pfx := p, cnt := 0, op := 0 }
  | .sae p => { row := { page := .ext, code := 0xD8, format := .implied, takes := takesNone }, pfx := p, cnt := 0, op := 0 }
  | .say p => { row := { page := .ext, code := 0xDA, format := .implied, takes := takesNone }, pfx := p, cnt := 0, op := 0 }
  | .cpxE p => { row := { page := .ext, code := 0xE0, format := .eInd, takes := takesRUL }, pfx := p, cnt := 0, op := 0 }
  | .peaIndAbsX p op => { row := { page := .ext, code := 0xE2, format := .indAbsX, takes := takesUOA }, pfx := p, cnt := 0, op := op }
  | .rmbE p => { row := { page := .ext, code := 0xE4, format := .eInd, takes := takesU }, pfx := p, cnt := 0, op := 0 }
  | .sbbImm p op => { row := { page := .ext, code := 0xE5, format := .imm, takes := takesNRL }, pfx := p, cnt := 0, op := op }
  | .tab p => { row := { page := .ext, code := 0xE8, format := .implied, takes := takesNRL }, pfx := p, cnt := 0, op := 0 }
  | .sbcE p => { row := { page := .ext, code := 0xE9, format := .eInd, takes := takesNRUL }, pfx := p, cnt := 0, op := 0 }
  | .teb p => { row := { page := .ext, code := 0xEA, format := .implied, takes := takesNRL }, pfx := p, cnt := 0, op := 0 }
  | .incE p => { row := { page := .ext, code := 0xED, format := .eInd, takes := takesNRU }, pfx := p, cnt := 0, op := 0 }
  | .wmbE p => { row := { page := .ext, code := 0xF4, format := .eInd, takes := takesU }, pfx := p, cnt := 0, op := 0 }
  | .sbbA p => { row := { page := .ext, code := 0xF5, format := .accum, takes := takesNR }, pfx := p, cnt := 0, op := 0 }
  | .tba p => { row := { page := .ext, code := 0xF8, format := .implied, takes := takesN }, pfx := p, cnt := 0, op := 0 }
  | .tbe p => { row := { page := .ext, code := 0xFA, format := .implied, takes := takesNRL }, pfx := p, cnt := 0, op := 0 }
  | .lcr p op => { row := { page := .sys, code := 0x01, format := .imm8, takes := takesNone }, pfx := p, cnt := 0, op := op }
  | .senv p op => { row := { page := .sys, code := 0x04, format := .imm8, takes := takesNone }, pfx := p, cnt := 0, op := op }
  | .senvE p op => { row := { page := .sys, code := 0x14, format := .zpE, takes := takesNone }, pfx := p, cnt := 0, op := op }
  | .scr p op => { row := { page := .sys, code := 0x21, format := .imm8, takes := takesNone }, pfx := p, cnt := 0, op := op }
  | .bcr p op => { row := { page := .sys, code := 0x41, format := .imm8, takes := takesNone }, pfx := p, cnt := 0, op := op }
  | .smmu p => { row := { page := .sys, code := 0x44, format := .implied, takes := takesNone }, pfx := p, cnt := 0, op := 0 }
  | .jpuAbs p op => { row := { page := .sys, code := 0x4C, format := .abs, takes := takesOA }, pfx := p, cnt := 0, op := op }
  | .cleim p => { row := { page := .sys, code := 0x55, format := .implied, takes := takesNone }, pfx := p, cnt := 0, op := 0 }
  | .rtu p => { row := { page := .sys, code := 0x60, format := .implied, takes := takesNone }, pfx := p, cnt := 0, op := 0 }
  | .jpuIndAbs p op => { row := { page := .sys, code := 0x6C, format := .indAbs, takes := takesOA }, pfx := p, cnt := 0, op := op }
  | .filu p => { row := { page := .sys, code := 0x74, format := .implied, takes := takesNone }, pfx := p, cnt := 0, op := 0 }
  | .mvnfu p => { row := { page := .sys, code := 0x94, format := .implied, takes := takesNone }, pfx := p, cnt := 0, op := 0 }
  | .mvpfu p => { row := { page := .sys, code := 0xB4, format := .implied, takes := takesNone }, pfx := p, cnt := 0, op := 0 }
  | .wai p => { row := { page := .sys, code := 0xD1, format := .implied, takes := takesNone }, pfx := p, cnt := 0, op := 0 }
  | .mvntu p => { row := { page := .sys, code := 0xD4, format := .implied, takes := takesNone }, pfx := p, cnt := 0, op := 0 }
  | .stp p => { row := { page := .sys, code := 0xF1, format := .implied, takes := takesNone }, pfx := p, cnt := 0, op := 0 }
  | .mvptu p => { row := { page := .sys, code := 0xF4, format := .implied, takes := takesNone }, pfx := p, cnt := 0, op := 0 }
  | .inyQuick p cnt => { row := { page := .quick, code := 0x00, format := .quickReg, takes := takesNR }, pfx := p, cnt := cnt, op := 0 }
  | .deyQuick p cnt => { row := { page := .quick, code := 0x80, format := .quickReg, takes := takesNR }, pfx := p, cnt := cnt, op := 0 }
  | .inxQuick p cnt => { row := { page := .quick, code := 0x01, format := .quickReg, takes := takesNR }, pfx := p, cnt := cnt, op := 0 }
  | .dexQuick p cnt => { row := { page := .quick, code := 0x81, format := .quickReg, takes := takesNR }, pfx := p, cnt := cnt, op := 0 }
  | .incQuick p cnt => { row := { page := .quick, code := 0x02, format := .quickReg, takes := takesNR }, pfx := p, cnt := cnt, op := 0 }
  | .decQuick p cnt => { row := { page := .quick, code := 0x82, format := .quickReg, takes := takesNR }, pfx := p, cnt := cnt, op := 0 }
  | .rolQuick p cnt => { row := { page := .quick, code := 0x03, format := .quickReg, takes := takesNR }, pfx := p, cnt := cnt, op := 0 }
  | .rorQuick p cnt => { row := { page := .quick, code := 0x83, format := .quickReg, takes := takesNR }, pfx := p, cnt := cnt, op := 0 }
  | .aslQuick p cnt => { row := { page := .quick, code := 0x04, format := .quickReg, takes := takesNR }, pfx := p, cnt := cnt, op := 0 }
  | .lsrQuick p cnt => { row := { page := .quick, code := 0x84, format := .quickReg, takes := takesNR }, pfx := p, cnt := cnt, op := 0 }
  | .rdlQuick p cnt => { row := { page := .quick, code := 0x05, format := .quickReg, takes := takesNR }, pfx := p, cnt := cnt, op := 0 }
  | .rdrQuick p cnt => { row := { page := .quick, code := 0x85, format := .quickReg, takes := takesNR }, pfx := p, cnt := cnt, op := 0 }
  | .incQuickE p cnt => { row := { page := .quick, code := 0x06, format := .quickE, takes := takesNU }, pfx := p, cnt := cnt, op := 0 }
  | .decQuickE p cnt => { row := { page := .quick, code := 0x86, format := .quickE, takes := takesNU }, pfx := p, cnt := cnt, op := 0 }
  | .rolQuickE p cnt => { row := { page := .quick, code := 0x07, format := .quickE, takes := takesNU }, pfx := p, cnt := cnt, op := 0 }
  | .rorQuickE p cnt => { row := { page := .quick, code := 0x87, format := .quickE, takes := takesNU }, pfx := p, cnt := cnt, op := 0 }
  | .rdlQuickE p cnt => { row := { page := .quick, code := 0x08, format := .quickE, takes := takesNU }, pfx := p, cnt := cnt, op := 0 }
  | .rdrQuickE p cnt => { row := { page := .quick, code := 0x88, format := .quickE, takes := takesNU }, pfx := p, cnt := cnt, op := 0 }
  | .aslQuickE p cnt => { row := { page := .quick, code := 0x09, format := .quickE, takes := takesNU }, pfx := p, cnt := cnt, op := 0 }
  | .lsrQuickE p cnt => { row := { page := .quick, code := 0x89, format := .quickE, takes := takesNU }, pfx := p, cnt := cnt, op := 0 }
  | .slxQuick p cnt => { row := { page := .quick, code := 0x0A, format := .quickReg, takes := takesNR }, pfx := p, cnt := cnt, op := 0 }
  | .srxQuick p cnt => { row := { page := .quick, code := 0x8A, format := .quickReg, takes := takesNR }, pfx := p, cnt := cnt, op := 0 }
  | .slyQuick p cnt => { row := { page := .quick, code := 0x0B, format := .quickReg, takes := takesNR }, pfx := p, cnt := cnt, op := 0 }
  | .sryQuick p cnt => { row := { page := .quick, code := 0x8B, format := .quickReg, takes := takesNR }, pfx := p, cnt := cnt, op := 0 }
  | .asrQuick p cnt => { row := { page := .quick, code := 0x0C, format := .quickReg, takes := takesNR }, pfx := p, cnt := cnt, op := 0 }
  | .asrQuickE p cnt => { row := { page := .quick, code := 0x8C, format := .quickE, takes := takesNU }, pfx := p, cnt := cnt, op := 0 }
  | .incQuickZp p op cnt => { row := { page := .quick, code := 0x0D, format := .quickZp, takes := takesNU }, pfx := p, cnt := cnt, op := op }
  | .decQuickZp p op cnt => { row := { page := .quick, code := 0x8D, format := .quickZp, takes := takesNU }, pfx := p, cnt := cnt, op := op }
  | .rolQuickZp p op cnt => { row := { page := .quick, code := 0x0E, format := .quickZp, takes := takesNU }, pfx := p, cnt := cnt, op := op }
  | .rorQuickZp p op cnt => { row := { page := .quick, code := 0x8E, format := .quickZp, takes := takesNU }, pfx := p, cnt := cnt, op := op }
  | .aslQuickZp p op cnt => { row := { page := .quick, code := 0x0F, format := .quickZp, takes := takesNU }, pfx := p, cnt := cnt, op := op }
  | .lsrQuickZp p op cnt => { row := { page := .quick, code := 0x8F, format := .quickZp, takes := takesNU }, pfx := p, cnt := cnt, op := op }

/-- The operation width field RS; 00 without prefix1 (R154). -/
def Pfx.size (p : Pfx) : Size := match p.p1 with
  | some q => q.size
  | Option.none => .b8

/-- The address extension field AM; 0 without prefix1 (R154). -/
def Pfx.am (p : Pfx) : Bool := match p.p1 with
  | some q => q.am
  | Option.none => false

/-- The offset register field OF; 00 without prefix1 (R154). -/
def Pfx.offset (p : Pfx) : OffsetReg := match p.p1 with
  | some q => q.offset
  | Option.none => .none

/-- The user mode selector UM; 0 without prefix2 (R154). -/
def Pfx.um (p : Pfx) : Bool := match p.p2 with
  | some q => q.um
  | Option.none => false

/-- The no flags selector NF; 0 without prefix2 (R154). -/
def Pfx.nf (p : Pfx) : Bool := match p.p2 with
  | some q => q.nf
  | Option.none => false

/-- The effective extension LEeff: the field of a prefix2 literally, else the class default `dflt` (R253). -/
def Pfx.extension (p : Pfx) (dflt : Extension) : Extension := match p.p2 with
  | some q => q.ext
  | Option.none => dflt

/-- `nb`, the bytes of an operation of a size (R250). -/
def Size.bytes : Size → Nat
  | .b8 => 1
  | .b16 => 2
  | .b32 => 4
  | .b64 => 8

/-- How many operand bytes follow the opcode (R166 to R169). -/
def Format.operandBytes (f : Format) (p : Pfx) : Nat := match f with
  | .implied | .accum | .eInd | .quickReg | .quickE => 0
  | .imm | .rel => p.size.bytes
  | .imm8 | .zpE | .quickZp => 1
  | .zp | .zpX | .zpY | .relAm => if p.am then 4 else 1
  | .abs | .absX | .absY | .relWideAm => if p.am then 8 else 2
  | .indZp | .indZpY | .indZpX | .qindZp | .qindZpY | .qindZpX => 1
  | .indAbs | .indAbsY | .indAbsX | .qindAbs | .qindAbsY | .qindAbsX => 2

/-- How many bytes select a page (R155). -/
def Page.bytes : Page → Nat
  | .std => 0
  | .ext | .sys | .quick => 1

/-- How many prefix bytes stand before the page byte (R153). -/
def Pfx.bytes (p : Pfx) : Nat := (if p.p1.isSome then 1 else 0) + (if p.p2.isSome then 1 else 0)

/-- The length of an instruction in bytes (R170). -/
def instrBytes (page : Page) (f : Format) (p : Pfx) : Nat := p.bytes + page.bytes + 1 + f.operandBytes p

/-- R165: a prefix bit that the row does not list is at its default; a duplicate opcode needs AM = 1 (R157). The class
default of LE is 00 for every row that does not list LE (R253, R254). -/
def Row.admits (r : Row) (p : Pfx) : Bool :=
  (r.takes.rs || p.size == .b8) && (r.takes.ofs || p.offset == .none) && (r.takes.am || !p.am) &&
  (r.takes.um || !p.um) && (r.takes.nf || !p.nf) && (r.takes.le || p.extension .none == .none) &&
  (!r.dup || p.am)

end Sys2Proof
end

