-- ==== Sys2Proof/Machine/Ops.lean ====
section
/-! DEFINITION. The named operations over registers and memory: accessors, translation and byte accesses
(spec/20_memory.md R118 to R129), stack primitives (spec/41 R269, R270), the configuration registers (spec/10_state.md R50
to R66), taking an exception (spec/60_exceptions.md R665 to R689), the return from one (R690 to R694), and how an
instruction is performed (spec/42 R300, spec/60 R663, R664). -/

namespace Sys2Proof.Machine

/-! ### Registers -/

/-- `W` in bits. -/
def State.w (s : State) : Nat := s.cfg.width.bits

/-- `W/8`. -/
def State.wBytes (s : State) : Nat := s.cfg.width.bytes

/-- `SR.H`, constantly 1 without HYP (R37, R701). -/
def State.isHyp (s : State) : Bool := s.sr.h || !s.cfg.hyp

/-- `SR.P`, constantly 1 without HYP (R38, R701). -/
def State.prevHyp (s : State) : Bool := s.sr.p || !s.cfg.hyp

/-- The environment `cur` of instruction fetches (R8, R117). -/
def State.cur (s : State) : Env := if s.isHyp then .hyp else .user

/-- Write `SR.H`; without HYP it stays 1 (R701). -/
def State.setH (s : State) (v : Bool) : State := { s with sr := { s.sr with h := v || !s.cfg.hyp } }

/-- Write `SR.P`; without HYP it stays 1 (R701). -/
def State.setP (s : State) (v : Bool) : State := { s with sr := { s.sr with p := v || !s.cfg.hyp } }

/-- Write `SR.SF`. -/
def State.setSf (s : State) (v : BitVec 2) : State := { s with sr := { s.sr with sf := v } }

/-- Write `SR.I`. -/
def State.setI (s : State) (v : Bool) : State := { s with sr := { s.sr with i := v } }

/-- Write `EIM`. -/
def State.setEim (s : State) (v : BitVec 3) : State := { s with eim := v }

/-- Drop the load-linked reservation (R73). -/
def State.unlink (s : State) : State := { s with link := none }

/-- `pc <- v` (R8), modulo `2^W` (R79). -/
def State.setPc (s : State) (v : Word) : State := { s with pc := low s.w v }

/-- The five registers that instructions name as source or destination (R21 to R25). -/
inductive Reg where
  | a | x | y | e | b
deriving DecidableEq, Repr

/-- The whole of a register. -/
def State.reg (s : State) : Reg → Word
  | .a => s.a
  | .x => s.x
  | .y => s.y
  | .e => s.e
  | .b => s.b

/-- Write the whole of a register (`W` bits). -/
def State.setReg (s : State) (r : Reg) (v : Word) : State := match r with
  | .a => { s with a := low s.w v }
  | .x => { s with x := low s.w v }
  | .y => { s with y := low s.w v }
  | .e => { s with e := low s.w v }
  | .b => { s with b := low s.w v }

/-- The stack pointer of an environment: `SPU` for the user's, `SPH` else (R26, R269). -/
def State.sp (s : State) : Env → Word
  | .user => s.spu
  | _ => s.sph

/-- Write the stack pointer of an environment. -/
def State.setSp (s : State) (env : Env) (v : Word) : State := match env with
  | .user => { s with spu := low s.w v }
  | _ => { s with sph := low s.w v }

/-- The data environment `denv` of an instruction: the user's under UM, else the current one (R232). -/
def State.denv (s : State) (p : Pfx) : Env := if p.um then .user else s.cur

/-- The status byte (R28), with bits 5 and 4 as given. -/
def statusByte (r : Status) (bit5 b : Bool) : Byte :=
  BitVec.ofBool r.n ++ BitVec.ofBool r.v ++ BitVec.ofBool bit5 ++ BitVec.ofBool b ++
    BitVec.ofBool r.d ++ BitVec.ofBool r.i ++ BitVec.ofBool r.z ++ BitVec.ofBool r.c

/-- The extended status byte `0000 : H : P : SF` (R28, R680). -/
def extendedByte (h p : Bool) (sf : BitVec 2) : Byte :=
  (0 : BitVec 4) ++ BitVec.ofBool h ++ BitVec.ofBool p ++ sf

/-- `N, V, D, I, Z, C` from a status byte; the high byte of `SR` is kept (R323, R692). -/
def Status.load (r : Status) (b : Byte) : Status :=
  { r with
    n := b.getLsbD 7
    v := b.getLsbD 6
    d := b.getLsbD 3
    i := b.getLsbD 2
    z := b.getLsbD 1
    c := b.getLsbD 0 }

/-- The 16-bit `SR` as configuration register `$10` reads it: bits 15:12, 5 and 4 are 0 (R28, R54). -/
def State.srWord (s : State) : Word :=
  (extendedByte s.isHyp s.prevHyp s.sr.sf ++ statusByte s.sr false false).setWidth 64

/-- The lowest active line among `k, k+1, …`, `n` lines in all; 0 when none is active. -/
def lowestLine (lines : Byte) : Nat → Nat → Nat
  | 0, _ => 0
  | n + 1, k => if lines.getLsbD k then k else lowestLine lines n (k + 1)

/-- `ISR`: the lowest-numbered active maskable line, 0 if none (R43, R674). -/
def State.isr (s : State) : Nat := lowestLine s.irqLine s.cfg.nirq 1

/-! ### Stops -/

/-- Why an access or an instruction does not complete. -/
inductive Stop where
  | abort (k : AbortKind)
  | fault (f : Fault)
  | refuse (r : Refusal)
deriving DecidableEq, Repr

/-- A stop, with the memory as the bytes written before it left it (R107). -/
structure Halt where
  /-- the reason -/
  stop : Stop
  /-- memory at that point -/
  mem : Memory
deriving DecidableEq, Repr

/-- A result, or a stop. -/
abbrev Res (α : Type) := Except Halt α

/-- Stop in state `s`. -/
def halt {α : Type} (s : State) (x : Stop) : Res α := .error { stop := x, mem := s.mem }

/-- Refuse in state `s`. -/
def refuse {α : Type} (s : State) (r : Refusal) : Res α := halt s (.refuse r)

/-! ### Translation -/

/-- The kind of an access (R129). -/
inductive Access where
  | read | write | fetch
deriving DecidableEq, Repr

/-- Bits `W-1:8` of an address with bits 7:0 replaced (R118, R129). -/
def withLowByte (a : Word) (b : Byte) : Word := ((a >>> 8) <<< 8) ||| b.setWidth 64

/-- A container set matches a key `ea[W-1:8] : mc`; the all-zero set of reset never does (R118). -/
def Container.matchesKey (c : Container) (key : Word) : Bool :=
  ((key &&& c.mask) == c.cmp) && !(c.mask == 0 && c.cmp == 0 && c.off == 0)

/-- The priority search of R129 over the containers from the lowest number on: the physical address, or nothing for a
write that READONLY drops. `skipped` records a container passed over for its HYPERVISOR bit. -/
def searchContainers (env : Env) (ea key : Word) (kind : Access) :
    List Container → Bool → Except AbortKind (Option Word)
  | [], skipped => if skipped then .error .privmem else .ok (some ea)
  | c :: rest, skipped =>
    if c.matchesKey key then
      if c.off.getLsbD 1 && env == .user then searchContainers env ea key kind rest true
      else if !c.off.getLsbD 0 then .error .nomem
      else if kind == .fetch && c.off.getLsbD 4 then .error .noexec
      else if kind == .write && c.off.getLsbD 2 then
        if c.off.getLsbD 3 then .error .wprot else .ok none
      else .ok (some (ea ||| withLowByte c.off 0))
    else searchContainers env ea key kind rest skipped

/-- The match code an access carries (R117). -/
def State.matchCode (s : State) : Env → Byte
  | .user => s.muCode
  | _ => s.mh

/-- `Translate` (R129): the physical address of a byte, or nothing for a dropped write. -/
def translate (s : State) (env : Env) (ea : Word) (kind : Access) : Except AbortKind (Option Word) :=
  if env = .phys ∨ s.cfg.ncont = 0 then .ok (some ea)
  else searchContainers env ea (withLowByte ea (s.matchCode env)) kind s.cont false

/-- The platform has nothing at this physical address (R102). -/
def State.isVacant (s : State) (p : Nat) : Bool :=
  s.cfg.vacant.any fun r => decide (r.1 ≤ p) && decide (p < r.1 + r.2)

/-- Translate, then find the platform's answer (R102). -/
def locate (s : State) (env : Env) (ea : Word) (kind : Access) : Except Stop (Option Nat) :=
  match translate s env ea kind with
  | .error k => .error (.abort k)
  | .ok none => .ok none
  | .ok (some p) => if s.isVacant p.toNat then .error (.fault (.vacantAddress p.toNat)) else .ok (some p.toNat)

/-! ### Memory accesses -/

/-- Read one byte (R127, R128). A read or fetch is never dropped. -/
def readByte (s : State) (env : Env) (ea : Word) (kind : Access) : Except Stop Byte :=
  match locate s env ea kind with
  | .error x => .error x
  | .ok none => .ok unlistedByte
  | .ok (some p) => .ok (s.mem.byteAt p)

/-- Read `k` bytes in ascending address order, modulo `2^W` (R107, R108). -/
def readBytes (s : State) (env : Env) (ea : Word) : Nat → Except Stop (List Byte)
  | 0 => .ok []
  | k + 1 => match readByte s env ea .read with
    | .error x => .error x
    | .ok b => match readBytes s env (low s.w (ea + 1)) k with
      | .error x => .error x
      | .ok bs => .ok (b :: bs)

/-- `MemReadIn(env, ea, k)`, little-endian (R127). -/
def memRead (s : State) (env : Env) (ea : Word) (k : Nat) : Res Word :=
  match readBytes s env (low s.w ea) k with
  | .error x => halt s x
  | .ok bs => .ok (ofBytes bs)

/-- Write one byte; a write through a READONLY container without TRAPWRITE changes nothing (R123, R127). -/
def writeByte (s : State) (env : Env) (ea : Word) (v : Byte) : Res State :=
  match locate s env ea .write with
  | .error x => halt s x
  | .ok none => .ok s
  | .ok (some p) => .ok { s with mem := s.mem.store p v }

/-- Write bytes in ascending address order; an abort leaves the earlier ones written (R107). -/
def writeBytes (s : State) (env : Env) (ea : Word) : List Byte → Res State
  | [] => .ok s
  | v :: vs => match writeByte s env ea v with
    | .error h => .error h
    | .ok t => writeBytes t env (low s.w (ea + 1)) vs

/-- `MemWriteIn(env, ea, k, v)` (R127). -/
def memWrite (s : State) (env : Env) (ea : Word) (k : Nat) (v : Word) : Res State :=
  writeBytes s env (low s.w ea) (toBytes k v)

/-! ### Stack -/

/-- Push bytes in the order given: write at the pointer, then decrement it (R115, R270). -/
def pushBytes (s : State) (env : Env) : List Byte → Res State
  | [] => .ok s
  | v :: vs => match writeByte s env (low s.w (s.sp env)) v with
    | .error h => .error h
    | .ok t => pushBytes (t.setSp env (t.sp env - 1)) env vs

/-- `PushIn(env, k, v)`: most significant byte first (R270, R680). -/
def push (s : State) (env : Env) (k : Nat) (v : Word) : Res State := pushBytes s env (toBytes k v).reverse

/-- Pull bytes: increment the pointer, then read (R270). -/
def pullBytes (s : State) (env : Env) : Nat → Res (List Byte × State)
  | 0 => .ok ([], s)
  | k + 1 =>
    let t := s.setSp env (s.sp env + 1)
    match readByte t env (t.sp env) .read with
    | .error x => halt s x
    | .ok b => match pullBytes t env k with
      | .error h => .error h
      | .ok (bs, u) => .ok (b :: bs, u)

/-- `PullIn(env, k)`, little-endian (R270). -/
def pull (s : State) (env : Env) (k : Nat) : Res (Word × State) :=
  match pullBytes s env k with
  | .error h => .error h
  | .ok (bs, t) => .ok (ofBytes bs, t)

/-! ### Taking an exception -/

/-- The offset of an abort's vector in the block at `AV` (R660). -/
def AbortKind.offset : AbortKind → Word
  | .nomem => 0xFA
  | .wprot => 0xF8
  | .noexec => 0xF6
  | .privrti => 0xF4
  | .privop => 0xF2
  | .maxtrap => 0xF0
  | .privmem => 0xEE

/-- `sext_W` of a two-byte value (R110). -/
def State.sext16 (s : State) (v : Word) : Word := signExt 16 s.w v

/-- `base[W-1:16] : v`: a target in the 64 kB block of a vector table (R111 to R113). -/
def bankTarget (base v : Word) : Word := ((base >>> 16) <<< 16) ||| low 16 v

/-- Read a table vector in the hypervisor environment: the target stays in the table's block (R111 to R114). -/
def tableVector (s : State) (base addr : Word) : Res Word :=
  match memRead s .hyp addr 2 with
  | .error h => .error h
  | .ok v => .ok (bankTarget base v)

/-- Read one of the vectors used before the base registers are written, at the sign extension of a 16-bit address; its
two bytes are sign-extended (R110). -/
def singleVector (s : State) (env : Env) (addr : Word) : Res Word :=
  match memRead s env (s.sext16 addr) 2 with
  | .error h => .error h
  | .ok v => .ok (s.sext16 v)

/-- The size of a frame's return address (R682): the shortest canonical one under FRAME_SHORTEN, else `W/8`. -/
def frameBytes (c : Config) (ret : Word) : Nat :=
  if c.frameShorten && signExt 16 c.width.bits ret == ret then 2
  else if c.frameShorten && c.width == .w64 && signExt 32 c.width.bits ret == ret then 4
  else c.width.bytes

/-- The SF code of a frame size (R39). -/
def frameCode (k : Nat) : BitVec 2 := if k = 2 then 1 else if k = 4 then 2 else 3

/-- The frame size of an SF code; 00 is reserved (R39). -/
def codeBytes (sf : BitVec 2) : Nat :=
  if sf = 1 then 2 else if sf = 2 then 4 else if sf = 3 then 8 else 0

/-- `EnterExtended(ret, with_status, B)` (R680): the frame goes on the stack of the interrupted code, then the machine is in
hypervisor mode. -/
def enterExtended (s : State) (ret : Word) (status : Option Bool) : Res State :=
  let k := frameBytes s.cfg ret
  let s0 := s.setSf (frameCode k)
  match push s0 s.cur k ret with
  | .error h => .error h
  | .ok s1 => match push s1 s.cur 1 ((extendedByte s.isHyp s.prevHyp (frameCode k)).setWidth 64) with
    | .error h => .error h
    | .ok s2 =>
      let enter (t : State) : State := ((t.setP s.isHyp).setH true).unlink
      match status with
      | none => .ok (enter s2)
      | some b => match push s2 s.cur 1 ((statusByte s.sr false b).setWidth 64) with
        | .error h => .error h
        | .ok s3 => .ok (enter s3)

/-- The 6502 compatible frame (R684, R686): two address bytes and the status byte with bit 5 set, on the current stack;
`I` is set and the reservation dropped, `H`, `P` and `SF` stay. -/
def enterCompat (s : State) (ret : Word) (b : Bool) : Res State :=
  match push s s.cur 2 ret with
  | .error h => .error h
  | .ok s1 => match push s1 s.cur 1 ((statusByte s.sr true b).setWidth 64) with
    | .error h => .error h
    | .ok s2 => .ok ((s2.setI true).unlink)

/-- An abort met inside an entry sequence is refused (R667; log entry 6). -/
def asEntry {α : Type} : Res α → Res α
  | .ok v => .ok v
  | .error h => match h.stop with
    | .abort k => .error { h with stop := .refuse (.entryAborted k) }
    | _ => .error h

/-- The target of an abort (R665). -/
def abortTarget (s : State) (k : AbortKind) : Res Word :=
  if s.avAct then tableVector s s.av (s.av + k.offset) else singleVector s .hyp 0xFFF8

/-- `AbortEntry(kind)` (R666) from the state the abort is taken in, whose pc is the start of the instruction. -/
def enterAbort (s : State) (pcNext : Word) (k : AbortKind) : Res State :=
  let ret := match s.cfg.abortPc with
    | .instructionStart => s.pc
    | .nextInstruction => low s.w pcNext
  match enterExtended s ret (some false) with
  | .error h => .error h
  | .ok t => match abortTarget t k with
    | .error h => .error h
    | .ok v => .ok (t.setPc v)

/-! ### Interrupts -/

/-- The acceptance test (R675): the NMI, or the lowest active line if EIM and `SR.I` let it through. -/
def acceptedInterrupt (s : State) : Option Nat :=
  if s.nmiPend then some 0
  else if s.isr ≠ 0 ∧ s.isr ≤ s.eim.toNat ∧ s.sr.i = false then some s.isr
  else none

/-- `EIM <- k - 1`, or 0 for the NMI, whose request is cleared (R676, R673). -/
def acknowledge (s : State) (k : Nat) : State :=
  { s with eim := BitVec.ofNat 3 (k - 1), nmiPend := s.nmiPend && k != 0 }

/-- The core runs again (R636, R717). -/
def State.resume (s : State) : State := { s with run := .running }

/-- Interrupt entry with `IVACT = 1` (R696). -/
def enterVectored (s : State) (k : Nat) : Res State :=
  match enterExtended s s.pc (some false) with
  | .error h => .error h
  | .ok t => match tableVector t t.iv (t.iv + BitVec.ofNat 64 (2 * k)) with
    | .error h => .error h
    | .ok v => .ok (((acknowledge t k).setPc v).resume)

/-- The 6502 compatible interrupt sequence (R684). -/
def enterCompatInterrupt (s : State) (k : Nat) : Res State :=
  match enterCompat s s.pc false with
  | .error h => .error h
  | .ok t => match singleVector t t.cur (if k = 0 then 0xFFFA else 0xFFFE) with
    | .error h => .error h
    | .ok v => .ok (((acknowledge t k).setPc v).resume)

/-- The user mode interrupt sequence (R686): the vector is at user address `$FFFE`, zero-extended. -/
def enterUserInterrupt (s : State) : Res State :=
  match enterCompat s s.pc false with
  | .error h => .error h
  | .ok t => match memRead t .user 0xFFFE 2 with
    | .error h => .error h
    | .ok v => .ok ((t.setPc v).resume)

/-- The entry sequence of interrupt `k` (R675, R679, R685, R686). -/
def enterInterrupt (s : State) (k : Nat) : Res State :=
  if k ≠ 0 ∧ s.isHyp = false ∧ s.muUsel.toNat = k then enterUserInterrupt s
  else if s.ivAct then enterVectored s k
  else enterCompatInterrupt s k

/-! ### Traps, BRK and returns -/

/-- The target of trap number `t` (R687, R113). -/
def trapTarget (s : State) (t : Word) : Res Word :=
  if s.tvAct then tableVector s s.tv (s.tv ||| (low 8 t <<< 1)) else singleVector s .hyp 0xFFF6

/-- TRP (R687, R688): MAXTRAP unless the number is below TMV, else the frame without a status byte. -/
def takeTrap (t : Word) (s : State) : Res State :=
  if (low 8 t).toNat < s.tmv.toNat then
    asEntry (match enterExtended s (low s.w (s.pc - 1)) none with
      | .error h => .error h
      | .ok u => match trapTarget u t with
        | .error h => .error h
        | .ok v => .ok (u.setPc v))
  else halt s (.abort .maxtrap)

/-- The target of BRK (R689): the abort table's last vector, or the shared vector read in the environment of its frame's
sequence (R114; log entry 15). -/
def breakTarget (s : State) : Res Word :=
  if s.avAct then tableVector s s.av (s.av + 0xFE) else singleVector s s.cur 0xFFFE

/-- BRK (R689): the frame follows IVACT, the vector AVACT; the stacked address is that of the opcode plus 2. -/
def takeBreak (s : State) : Res State :=
  let ret := low s.w (s.pc + 1)
  asEntry (match (if s.ivAct then enterExtended s ret (some true) else enterCompat s ret true) with
    | .error h => .error h
    | .ok t => match breakTarget t with
      | .error h => .error h
      | .ok v => .ok (t.setPc v))

/-- `PullEnv` (R690). -/
def pullEnv (s : State) : Env := if s.isHyp && s.prevHyp then .hyp else .user

/-- What an extended frame gives back: the return address, `H`, `P`, `SF`, and the state after the pulls. -/
structure Frame where
  /-- the pulled address, before extension -/
  addr : Word
  /-- its size in bytes -/
  size : Nat
  /-- new `H` -/
  h : Bool
  /-- new `P` -/
  p : Bool
  /-- new `SF` -/
  sf : BitVec 2
  /-- the state after the pulls: only a stack pointer differs -/
  after : State
deriving DecidableEq, Repr

/-- Pull an extended status byte and the address it announces (R691, R692, R694): reserved sizes are refused (R39), and an
`H` of 1 on the user stack raises PRIVRTI. -/
def pullFrame (s : State) (env : Env) : Res Frame :=
  match pull s env 1 with
  | .error h => .error h
  | .ok (x, s1) =>
    let sf := x.setWidth 2
    if codeBytes sf = 0 ∨ s.wBytes < codeBytes sf then refuse s .reservedFrameSize
    else if env = .user ∧ x.getLsbD 3 then halt s (.abort .privrti)
    else match pull s1 env (codeBytes sf) with
      | .error h => .error h
      | .ok (a, s2) =>
        .ok { addr := a, size := codeBytes sf, h := env != .user && x.getLsbD 3,
              p := env != .user && x.getLsbD 2, sf := sf, after := s2 }

/-- The pulled address widened to `W` bits (R691, R692). -/
def Frame.target (f : Frame) (s : State) : Word := signExt (8 * f.size) s.w f.addr

/-- RTU (R691). -/
def returnFromTrap (s : State) : Res State :=
  match pullFrame s (pullEnv s) with
  | .error h => .error h
  | .ok f => .ok (((((f.after.setH f.h).setP f.p).setSf f.sf).unlink).setPc (f.target s + 1))

/-- The commit of RTI (R692): flags from the status byte, `P` cleared and `EIM` kept in user mode, `EIM` reloaded in
hypervisor mode. -/
def commitRti (s t : State) (status : Byte) (h p : Bool) (sf : BitVec 2) (target : Word) : State :=
  let u : State := { t with
    sr := { t.sr.load status with sf := sf }
    eim := if s.isHyp then s.imr else t.eim }
  (((u.setH h).setP (p && s.isHyp)).unlink).setPc target

/-- RTI (R692): bit 5 of the pulled status byte selects the frame format (R693). -/
def returnFromInterrupt (s : State) : Res State :=
  match pull s (pullEnv s) 1 with
  | .error h => .error h
  | .ok (x, s1) =>
    if x.getLsbD 5 then
      match pull s1 (pullEnv s) 2 with
      | .error h => .error h
      | .ok (a, s2) => .ok (commitRti s s2 (x.setWidth 8) s.isHyp s.prevHyp s.sr.sf (s.sext16 a))
    else
      match pullFrame s1 (pullEnv s) with
      | .error h => .error h
      | .ok f => .ok (commitRti s f.after (x.setWidth 8) f.h f.p f.sf (f.target s))

/-! ### Performing an instruction -/

/-- What a step answers. -/
abbrev Answer := Host.Outcome State Fault Refusal

/-- A stop or a next state as the answer of a step. -/
def answer : Res State → Answer
  | .ok t => .next t
  | .error h => match h.stop with
    | .abort k => .refused (.entryAborted k)
    | .fault f => .fault f
    | .refuse r => .refused r

/-- Take an abort (R664, R666): from the state before the instruction, but for the memory bytes already written. An abort
inside the entry is refused (R667). -/
def abortAnswer (undo : State) (pcNext : Word) (k : AbortKind) (mem : Memory) : Answer :=
  answer (enterAbort { undo with mem := mem } pcNext k)

/-- The outcome of an instruction's body: an abort is taken from `undo`. -/
def finish (undo : State) (pcNext : Word) : Res State → Answer
  | .ok t => .next t
  | .error h => match h.stop with
    | .abort k => abortAnswer undo pcNext k h.mem
    | .fault f => .fault f
    | .refuse r => .refused r

/-- Perform an instruction whose aborts are taken from `undo` (R300, R663, R664): PRIVOP for the SYS page or UM in user mode
(R703), UM refused without HYP (R701), else the body with `PC = PCnext`. -/
def performFrom (undo : State) (page : Page) (f : Format) (p : Pfx) (s : State) (body : State → Res State) : Answer :=
  let next := s.pc + BitVec.ofNat 64 (instrBytes page f p)
  if (page = .sys ∨ p.um) ∧ s.isHyp = false then abortAnswer undo next .privop s.mem
  else if p.um ∧ s.cfg.hyp = false then .refused .userSelectorWithoutHyp
  else finish undo next (body (s.setPc next))

/-- Perform an instruction: everything but memory is undone by an abort (R664). -/
def perform (page : Page) (f : Format) (p : Pfx) (s : State) (body : State → Res State) : Answer :=
  performFrom s page f p s body

/-! ### Configuration registers -/

/-- `ReadCR` (R50 to R66), zero-extended. Without HYP, `$15` still reads the stored `SPU`: DESIGN CHOICE (log entry
28), since only `SPH` exists then (R26, R701) and R59 gives no value for that case. -/
def readConfig (s : State) (r : Byte) : Except Refusal Word :=
  if r = 0x00 then .ok 0x00AF
  else if r = 0x01 then .ok (low s.w (BitVec.ofNat 64 s.cfg.myCore))
  else if r = 0x02 then .ok (low s.w (BitVec.ofNat 64 s.cfg.ncore))
  else if r = 0x03 then .ok s.actCore
  else if r = 0x10 then .ok s.srWord
  else if r = 0x11 then .ok (s.imr.setWidth 64)
  else if r = 0x12 then .ok (BitVec.ofNat 64 s.isr)
  else if r = 0x13 then .ok (s.eim.setWidth 64)
  else if r = 0x14 then .ok s.sph
  else if r = 0x15 then .ok s.spu
  else if r = 0x16 then .ok (s.mh.setWidth 64)
  else if r = 0x17 then .ok ((s.muUsel ++ s.muCode).setWidth 64)
  else if r = 0x20 then .ok s.iv
  else if r = 0x21 then .ok s.av
  else if r = 0x22 then .ok s.tv
  else if r = 0x30 then .ok (low 8 (BitVec.ofNat 64 s.cfg.ncont))
  else if s.cfg.crTmv = some r then .ok s.tmv
  else .error (.undefinedConfigRegister r)

/-- The bit of core `k` in MC_ACTCORE (R53). -/
def coreBit (k : Nat) : Word := (1 : Word) <<< k

/-- MC_ACTCORE after core `writer` writes `v`: the bits of the other cores that exist take the value, the writer's own bit
stays (R53; log entry 12). A 0 in the bit of core 0 stays too: core 0 is then stopped, and where R53 lets a write of 1 set the
run state of every core but the writer, R637 and R745 let core 0 run again by reset only (DEDUCED, log entry 29). -/
def newActCore (s : State) (writer : Nat) (v : Word) : Word :=
  let own := low s.w (coreBit writer)
  let startable := low s.cfg.ncore (BitVec.allOnes 64) &&& (s.actCore ||| ~~~coreBit 0)
  (s.actCore &&& own) ||| (low s.w v &&& startable &&& ~~~own)

/-- `WriteCR` (R53, R55, R60 to R66, R71, R621): the low bits up to the register's width; reserved bits must be 0. -/
def writeConfig (s : State) (r : Byte) (v : Word) : Except Refusal State :=
  if r = 0x03 then .ok { s with actCore := newActCore s s.cfg.myCore v }
  else if r = 0x11 then
    if low 8 v >>> 3 = 0 then .ok { s with imr := v.setWidth 3 } else .error (.reservedRegisterBits r)
  else if r = 0x16 then .ok { s with mh := v.setWidth 8 }
  else if r = 0x17 then
    if low 16 v >>> 11 = 0 then .ok { s with muCode := v.setWidth 8, muUsel := (v >>> 8).setWidth 3 }
    else .error (.reservedRegisterBits r)
  else if r = 0x20 then
    if low 8 v = 0 then .ok { s with iv := low s.w v, ivAct := true } else .error (.reservedRegisterBits r)
  else if r = 0x21 then
    if low 8 v = 0 then .ok { s with av := low s.w v, avAct := true } else .error (.reservedRegisterBits r)
  else if r = 0x22 then
    if low 9 v = 0 then .ok { s with tv := low s.w v, tvAct := true } else .error (.reservedRegisterBits r)
  else if Config.listedRegisters.contains r then .error (.readOnlyConfigRegister r)
  else if s.cfg.crTmv = some r then .ok { s with tmv := low s.w v }
  else .error (.undefinedConfigRegister r)

/-- The core stops: RUN and its own bit of MC_ACTCORE (R53, R74, R637). -/
def State.stopCore (s : State) : State :=
  { s with run := .stopped, actCore := s.actCore &&& ~~~coreBit s.cfg.myCore }

/-! ### Inputs from outside the core (R11) -/

/-- The platform drives maskable line `k` (R75, R672). -/
def State.setIrqLine (s : State) (k : Fin 8) (level : Bool) : State :=
  { s with irqLine := (s.irqLine &&& ~~~((1 : Byte) <<< k.val)) ||| (if level then (1 : Byte) <<< k.val else 0) }

/-- The platform drives the NMI line; an inactive to active edge is latched, also in a stopped core (R72, R673, R716). -/
def State.setNmiLine (s : State) (level : Bool) : State :=
  { s with nmiLine := level, nmiPend := s.nmiPend || (level && !s.nmiLine) }

/-- The physical addresses of the bytes a reservation covers (R73). -/
def Link.bytes (l : Link) (s : State) : List Nat :=
  (List.range l.nb).filterMap fun i =>
    match translate s l.env (low s.w (l.addr + BitVec.ofNat 64 i)) .read with
    | .ok (some p) => some p.toNat
    | _ => none

/-- Another agent writes a byte of physical memory; a reservation on it is lost (R73, R134; log entry 20). -/
def State.agentWrite (s : State) (p : Nat) (v : Byte) : State :=
  { s with
    mem := s.mem.store p v
    link := s.link.filter fun l => !(l.bytes s).contains p }

/-- The reset vector: two bytes at physical `sext_W($FFFC)`, sign-extended (R741). -/
def State.resetVector (s : State) : Word :=
  signExt 16 s.w (ofBytes
    [s.mem.byteAt (s.sext16 0xFFFC).toNat, s.mem.byteAt (low s.w (s.sext16 0xFFFC + 1)).toNat])

/-- This core, another one than core 0, is started through MC_ACTCORE (R745): its own registers as after reset and its bit of MC_ACTCORE set (R53); the
global registers, the containers and memory stay. Two scopes are the model's, for R77 and R745 list neither: `TMV` is kept as
a global register is (DESIGN CHOICE, log entry 26), and `NMIPEND` is cleared as a core's own state is (DESIGN CHOICE, log
entry 27). -/
def State.startCore (s : State) : State :=
  { s with
    a := 0, x := 0, y := 0, e := 0, b := 0, spu := 0, sph := 0, pc := s.resetVector
    sr := State.reset.sr
    mh := 0, muCode := 0, muUsel := 0, nmiPend := false, link := none, run := .running
    actCore := low s.w (s.actCore ||| coreBit s.cfg.myCore) }

/-- Core `writer` writes `v` to the global MC_ACTCORE (R53, R77). If it is another core that exists, this core is stopped by a 0
in its bit, and started by a 1 if it is stopped (R716, R745). A stopped core 0 stays stopped, with a 0 in its bit: only a
reset ends that (R637, R745), although R53 and R716 except the writer alone (DEDUCED, log entry 29). A core whose number is
not below `W` has no bit and goes on as it was. -/
def State.actCoreWrite (s : State) (writer : Nat) (v : Word) : State :=
  let t := { s with actCore := newActCore s writer v }
  if writer = s.cfg.myCore ∨ s.cfg.ncore ≤ writer then s
  else if s.w ≤ s.cfg.myCore then t
  else if t.actCore.getLsbD s.cfg.myCore = false ∨ (s.run = .stopped ∧ s.cfg.myCore = 0) then t.stopCore
  else if s.run = .stopped then t.startCore
  else t

/-- Reset (R740, R741, R76), of every core together: parameters, inputs and memory stay, the pc comes from the reset vector,
core 0 runs and every other core is stopped (R74), everything else is as in `State.reset` (log entry 17). -/
def State.applyReset (s : State) : State :=
  { State.reset with
    cfg := s.cfg
    pc := s.resetVector
    cont := List.replicate s.cfg.ncont { mask := 0, cmp := 0, off := 0 }
    irqLine := s.irqLine
    nmiLine := s.nmiLine
    run := if s.cfg.myCore = 0 then .running else .stopped
    mem := s.mem }

end Sys2Proof.Machine
end

