-- ==== Sys2Proof/Machine/Flags.lean ====
section
/-! DEFINITION. Operation width, load extension, flags and the arithmetic they rest on (spec/41, spec/43, spec/45 R440). -/

namespace Sys2Proof.Machine

/-- The operation width `n` in bits (R250). -/
def opBits (p : Pfx) : Nat := 8 * p.size.bytes

/-- An operation wider than `W` is refused (R250). -/
def withWidth (p : Pfx) (body : State → Res State) (s : State) : Res State :=
  if s.w < opBits p then refuse s .widthTooLarge else body s

/-- `Extend(m, n, LEeff)` for LEeff other than 00 (R252); with 00 the value itself. -/
def extend (n w : Nat) (e : Extension) (m : Word) : Word := match e with
  | .none => low n m
  | .sign => signExt n w m
  | .zero => low w (low n m)
  | .ones => onesExt n w m

/-- `WriteReg` of a loaded or transferred `n`-bit value (R252, R300): only the low `n` bits with LEeff 00, else the
extended value. -/
def loadInto (n w : Nat) (e : Extension) (old m : Word) : Word := match e with
  | .none => insertLow n old m
  | _ => extend n w e m

/-! ### Flag writes -/

/-- `N` and `Z` of a result of width `fw` (R257). -/
def setNZ (fw : Nat) (r : Word) (s : State) : State :=
  { s with sr := { s.sr with n := topBit fw r, z := low fw r == 0 } }

/-- `C`. -/
def setC (c : Bool) (s : State) : State := { s with sr := { s.sr with c := c } }

/-- `V`. -/
def setV (v : Bool) (s : State) : State := { s with sr := { s.sr with v := v } }

/-- `Z` alone. -/
def setZ (z : Bool) (s : State) : State := { s with sr := { s.sr with z := z } }

/-- With NF = 1 no flag is written (R259). -/
def unlessNf (p : Pfx) (f : State → State) (s : State) : State := if p.nf then s else f s

/-! ### Addition, subtraction, compare -/

/-- A result of width `fw` with its carry and overflow. -/
structure Sum where
  /-- the result -/
  r : Word
  /-- carry out -/
  c : Bool
  /-- signed overflow -/
  v : Bool
deriving DecidableEq, Repr

/-- `Add(a, b, c, fw)` (R258). -/
def addC (fw : Nat) (a b : Word) (c : Bool) : Sum :=
  let total := (low fw a).toNat + (low fw b).toNat + c.toNat
  let r := low fw (BitVec.ofNat 64 total)
  { r := r
    c := decide (2 ^ fw ≤ total)
    v := topBit fw a == topBit fw b && topBit fw r != topBit fw a }

/-- `Sub(a, b, c, fw)`: `a + ~b + c`; a carry of 1 means no borrow (R258). -/
def subC (fw : Nat) (a b : Word) (c : Bool) : Sum := addC fw a (~~~b) c

/-- `N, V, Z, C` of an addition or subtraction (R354, R355, R560). -/
def setNVZC (fw : Nat) (q : Sum) (s : State) : State := setNZ fw q.r (setC q.c (setV q.v s))

/-- The flags of a compare (R360): `N`, `Z`, `C` of `a - b`; `V` only under CMP_SETS_V (R361). -/
def setCompare (fw : Nat) (a b : Word) (s : State) : State :=
  let q := subC fw a b true
  let t := setNZ fw q.r (setC q.c s)
  if s.cfg.cmpSetsV then setV q.v t else t

/-! ### Single steps of the read-modify-write instructions (R365 to R374, R440, R526 to R528) -/

/-- The nine single steps. -/
inductive Step1 where
  | inc | dec | asl | lsr | asr | rol | ror | rdl | rdr
deriving DecidableEq, Repr

/-- One step on an `n`-bit value and a carry (R440). -/
def Step1.apply (k : Step1) (n : Nat) (v : Word) (c : Bool) : Word × Bool := match k with
  | .inc => (low n (v + 1), c)
  | .dec => (low n (v - 1), c)
  | .asl => (low n (v <<< 1), topBit n v)
  | .lsr => (low n v >>> 1, v.getLsbD 0)
  | .asr => (low n v >>> 1 ||| (if topBit n v then 1 <<< (n - 1) else 0), v.getLsbD 0)
  | .rol => (low n (v <<< 1 ||| (if c then 1 else 0)), topBit n v)
  | .ror => (low n v >>> 1 ||| (if c then 1 <<< (n - 1) else 0), v.getLsbD 0)
  | .rdl => (low n (v <<< 1 ||| (if topBit n v then 1 else 0)), topBit n v)
  | .rdr => (low n v >>> 1 ||| (if v.getLsbD 0 then 1 <<< (n - 1) else 0), v.getLsbD 0)

/-- Whether the step writes the carry flag: all but `inc` and `dec` (R440). -/
def Step1.writesC : Step1 → Bool
  | .inc | .dec => false
  | _ => true

/-- `Quick`: the step applied `count` times (R440). -/
def Step1.repeated (k : Step1) (n : Nat) : Nat → Word → Bool → Word × Bool
  | 0, v, c => (v, c)
  | m + 1, v, c => Step1.repeated k n m (k.apply n v c).1 (k.apply n v c).2

/-- The flags after the last step: `N`, `Z` of the value, and `C` unless the step is `inc` or `dec` (R440). -/
def Step1.setFlags (k : Step1) (n : Nat) (vc : Word × Bool) (s : State) : State :=
  if k.writesC then setNZ n vc.1 (setC vc.2 s) else setNZ n vc.1 s

/-- The swap of the two halves of an `n`-bit value (R603). -/
def swapHalves (n : Nat) (m : Word) : Word :=
  low n (low (n / 2) m <<< (n / 2)) ||| (low n m >>> (n / 2))

end Sys2Proof.Machine
end

