-- ==== Sys2Proof/Machine/Operands.lean ====
section
/-! DEFINITION. Addressing modes and operands (spec/40_addressing_modes.md). Every function here is applied to a state whose
pc is `PCnext`. -/

namespace Sys2Proof.Machine

/-- Widen an operand address or a pointer of `bits` bits to `W` bits (R101, R226): a wider one is truncated, a shorter one
extended as SHORT_ADDR_EXT says. -/
def widenAddress (s : State) (bits : Nat) (v : Word) : Word := match s.cfg.shortAddr with
  | .zero => low s.w (low bits v)
  | .sign => signExt bits s.w v

/-- `off`, the value of the OF field (R228). -/
def offsetValue (p : Pfx) (s : State) : Word := match p.offset with
  | .none => 0
  | .pc => s.pc
  | .sp => s.sp (s.denv p)
  | .b => s.b

/-- The operand address of a mode, widened from its operand bytes (R166, R205 to R225). -/
def operandAddress (f : Format) (p : Pfx) (op : Word) (s : State) : Word := widenAddress s (8 * f.operandBytes p) op

/-- How many bytes the pointer of an indirect mode has (R233): 8 for a duplicate opcode, else 4 under AM, else 2. -/
def pointerBytes (f : Format) (p : Pfx) : Nat := match f with
  | .qindZp | .qindZpY | .qindZpX | .qindAbs | .qindAbsY | .qindAbsX => 8
  | _ => if p.am then 4 else 2

/-- Read the pointer of an indirect mode in `env` and widen it (R212 to R226). -/
def readPointer (env : Env) (f : Format) (p : Pfx) (ia : Word) (s : State) : Res Word :=
  match memRead s env ia (pointerBytes f p) with
  | .error h => .error h
  | .ok v => .ok (widenAddress s (8 * pointerBytes f p) v)

/-- `PCnext + sext_W(op)`, the base of the relative forms (R230, R231). -/
def relativeTarget (f : Format) (p : Pfx) (op : Word) (s : State) : Word :=
  low s.w (s.pc + signExt (8 * f.operandBytes p) s.w op)

/-- The effective address of a mode (R200 to R233), all arithmetic modulo `2^W`. The formats without an address give 0;
no instruction asks for theirs. -/
def effectiveAddress (f : Format) (p : Pfx) (op : Word) (s : State) : Res Word :=
  let a := operandAddress f p op s
  let off := offsetValue p s
  let env := s.denv p
  match f with
  | .eInd | .quickE | .zpE => .ok s.e
  | .zp | .abs => .ok (low s.w (a + off))
  | .zpX | .absX => .ok (low s.w (a + s.x + off))
  | .zpY | .absY => .ok (low s.w (a + s.y + off))
  | .quickZp => .ok (low s.w a)
  | .relAm | .relWideAm => .ok (low s.w (relativeTarget f p op s + off))
  | .indZp | .indAbs | .qindZp | .qindAbs => readPointer env f p (a + off) s
  | .indZpX | .indAbsX | .qindZpX | .qindAbsX => readPointer env f p (a + off + s.x) s
  | .indZpY | .indAbsY | .qindZpY | .qindAbsY => match readPointer env f p (a + off) s with
    | .error h => .error h
    | .ok v => .ok (low s.w (v + s.y))
  | .implied | .accum | .imm | .imm8 | .rel | .quickReg => .ok 0

/-- The source value `m` of an instruction with a memory or immediate operand, `n` bits wide (R204, R251). -/
def sourceOperand (f : Format) (p : Pfx) (op : Word) (s : State) : Res Word := match f with
  | .imm => .ok (low (opBits p) op)
  | _ => match effectiveAddress f p op s with
    | .error h => .error h
    | .ok ea => memRead s (s.denv p) ea p.size.bytes

/-- The operands of a computing instruction (R350): width, left operand and right operand. With LEeff 00 the operation is
`n` bits wide, else `W` (R252). -/
structure AluArgs where
  /-- the operation width `k` -/
  k : Nat
  /-- left operand -/
  l : Word
  /-- right operand -/
  m : Word
deriving DecidableEq, Repr

/-- `AluOperands()` for a register as left operand (R350, R360, R362). -/
def aluArgs (r : Word) (p : Pfx) (m : Word) (s : State) : AluArgs := match p.extension .none with
  | .none => { k := opBits p, l := low (opBits p) r, m := m }
  | e => { k := s.w, l := r, m := extend (opBits p) s.w e m }

end Sys2Proof.Machine
end

