-- ==== Sys2Proof/Machine/AccOps.lean ====
section
/-! DEFINITION. Accumulator operations INV, EXT, SWP, BCN (spec/47 R601 to R605). -/

namespace Sys2Proof.Machine

/-- INV (R601): two's complement negation of the low `n` bits, or of their extension. -/
def negateBody (p : Pfx) (s : State) : Res State := match p.extension .none with
  | .none =>
    let r := low (opBits p) (0 - s.a)
    .ok (unlessNf p (setNZ (opBits p) r) (s.setReg .a (insertLow (opBits p) s.a r)))
  | e =>
    let r := low s.w (0 - extend (opBits p) s.w e s.a)
    .ok (unlessNf p (setNZ s.w r) (s.setReg .a r))

/-- EXT (R602): with LEeff 00 only the flags; else the extension of the low `n` bits. -/
def extendBody (p : Pfx) (s : State) : Res State := match p.extension .none with
  | .none => .ok (unlessNf p (setNZ (opBits p) s.a) s)
  | e =>
    let r := extend (opBits p) s.w e s.a
    .ok (unlessNf p (setNZ s.w r) (s.setReg .a r))

/-- Replace the low `n` bits of the accumulator; `N` and `Z` at width `n` (R603, R604). -/
def replaceLow (p : Pfx) (r : Word) (s : State) : State :=
  unlessNf p (setNZ (opBits p) r) (s.setReg .a (insertLow (opBits p) s.a r))

/-- SWP (R603). -/
def swapBytesBody (p : Pfx) (s : State) : Res State := .ok (replaceLow p (swapHalves (opBits p) s.a) s)

/-- BCN on the accumulator (R604). -/
def countBody (p : Pfx) (s : State) : Res State := .ok (replaceLow p (BitVec.ofNat 64 (popCount (opBits p) s.a)) s)

/-- BCN on the location at `E`, in the current environment (R605). -/
def countMemBody (p : Pfx) (s : State) : Res State :=
  match memRead s s.cur s.e p.size.bytes with
  | .error h => .error h
  | .ok m => .ok (replaceLow p (BitVec.ofNat 64 (popCount (opBits p) m)) s)

/-- INV A, `$0F $A4` (R601). -/
def execInvA (p : Pfx) (s : State) : Answer := perform .ext .accum p s (withWidth p (negateBody p))

/-- BCN A, `$0F $B4` (R604). -/
def execBcnA (p : Pfx) (s : State) : Answer := perform .ext .accum p s (withWidth p (countBody p))

/-- BCN (E), `$0F $BC` (R605). -/
def execBcnE (p : Pfx) (s : State) : Answer := perform .ext .eInd p s (withWidth p (countMemBody p))

/-- EXT A, `$0F $C4` (R602). -/
def execExtA (p : Pfx) (s : State) : Answer := perform .ext .accum p s (withWidth p (extendBody p))

/-- SWP A, `$0F $D4` (R603). -/
def execSwpA (p : Pfx) (s : State) : Answer := perform .ext .accum p s (withWidth p (swapBytesBody p))

end Sys2Proof.Machine
end

