-- ==== Sys2Proof/Machine/AddrArith.lean ====
section
/-! DEFINITION. Arithmetic on E, the stack pointer and B (spec/47 R560 to R572). -/

namespace Sys2Proof.Machine

/-- The result of `AddrArith` on a register's value (R560): width, and sum or difference. An immediate with LEeff other than
00 works on the whole register. -/
def addrSum (immediate sub : Bool) (p : Pfx) (r m : Word) (s : State) : Nat × Sum :=
  let e := if immediate then p.extension .none else .none
  let k := match e with
    | .none => opBits p
    | _ => s.w
  let b := extend (opBits p) s.w e m
  (k, if sub then subC k r b true else addC k r b false)

/-- `AddrArith` on `E` or `B` (R560): the low `fw` bits are replaced; `N, V, Z, C` are set; `C` and `D` are not read. -/
def addrBody (r : Reg) (immediate sub : Bool) (p : Pfx) (m : Word) (s : State) : Res State :=
  let q := addrSum immediate sub p (s.reg r) m s
  .ok (unlessNf p (setNVZC q.1 q.2) (s.setReg r (insertLow q.1 (s.reg r) q.2.r)))

/-- `AddrArith` on the current stack pointer (R560, R563). -/
def stackAddrBody (immediate sub : Bool) (p : Pfx) (m : Word) (s : State) : Res State :=
  let q := addrSum immediate sub p (s.sp s.cur) m s
  .ok (unlessNf p (setNVZC q.1 q.2) (s.setSp s.cur (insertLow q.1 (s.sp s.cur) q.2.r)))

/-- ADE #, `$0F $25` (R561). -/
def execAdeImm (p : Pfx) (op : Word) (s : State) : Answer :=
  perform .ext .imm p s (withWidth p (fun t => addrBody .e true false p (low (opBits p) op) t))

/-- ADE A, `$0F $35` (R562). -/
def execAdeA (p : Pfx) (s : State) : Answer :=
  perform .ext .accum p s (withWidth p (fun t => addrBody .e false false p (low (opBits p) t.a) t))

/-- ADS #, `$0F $45` (R563). -/
def execAdsImm (p : Pfx) (op : Word) (s : State) : Answer :=
  perform .ext .imm p s (withWidth p (fun t => stackAddrBody true false p (low (opBits p) op) t))

/-- ADS A, `$0F $55` (R564). -/
def execAdsA (p : Pfx) (s : State) : Answer :=
  perform .ext .accum p s (withWidth p (fun t => stackAddrBody false false p (low (opBits p) t.a) t))

/-- ADB #, `$0F $65` (R565). -/
def execAdbImm (p : Pfx) (op : Word) (s : State) : Answer :=
  perform .ext .imm p s (withWidth p (fun t => addrBody .b true false p (low (opBits p) op) t))

/-- ADB A, `$0F $75` (R566). -/
def execAdbA (p : Pfx) (s : State) : Answer :=
  perform .ext .accum p s (withWidth p (fun t => addrBody .b false false p (low (opBits p) t.a) t))

/-- SBE #, `$0F $A5` (R567). -/
def execSbeImm (p : Pfx) (op : Word) (s : State) : Answer :=
  perform .ext .imm p s (withWidth p (fun t => addrBody .e true true p (low (opBits p) op) t))

/-- SBE A, `$0F $B5` (R568). -/
def execSbeA (p : Pfx) (s : State) : Answer :=
  perform .ext .accum p s (withWidth p (fun t => addrBody .e false true p (low (opBits p) t.a) t))

/-- SBS #, `$0F $C5` (R569). -/
def execSbsImm (p : Pfx) (op : Word) (s : State) : Answer :=
  perform .ext .imm p s (withWidth p (fun t => stackAddrBody true true p (low (opBits p) op) t))

/-- SBS A, `$0F $D5` (R570). -/
def execSbsA (p : Pfx) (s : State) : Answer :=
  perform .ext .accum p s (withWidth p (fun t => stackAddrBody false true p (low (opBits p) t.a) t))

/-- SBB #, `$0F $E5` (R571). -/
def execSbbImm (p : Pfx) (op : Word) (s : State) : Answer :=
  perform .ext .imm p s (withWidth p (fun t => addrBody .b true true p (low (opBits p) op) t))

/-- SBB A, `$0F $F5` (R572). -/
def execSbbA (p : Pfx) (s : State) : Answer :=
  perform .ext .accum p s (withWidth p (fun t => addrBody .b false true p (low (opBits p) t.a) t))

end Sys2Proof.Machine
end

