-- ==== Sys2Proof/Machine/Address.lean ====
section
/-! DEFINITION. Effective address instructions (spec/46 R535, R536). -/

namespace Sys2Proof.Machine

/-- LEA (R535): the address goes to `E`; `N` and `Z` at width `W`. -/
def leaBody (f : Format) (p : Pfx) (op : Word) (s : State) : Res State :=
  match effectiveAddress f p op s with
  | .error h => .error h
  | .ok ea => .ok (unlessNf p (setNZ s.w ea) (s.setReg .e ea))

/-- PEA (R536): the address is pushed, `W/8` bytes. -/
def peaBody (f : Format) (p : Pfx) (op : Word) (s : State) : Res State :=
  match effectiveAddress f p op s with
  | .error h => .error h
  | .ok ea => push s (s.denv p) s.wBytes ea

/-- LEA zp,Y, `$0F $02` (R535). -/
def execLeaZpY (p : Pfx) (op : Word) (s : State) : Answer := perform .ext .zpY p s (leaBody .zpY p op)

/-- PEA zp,Y, `$0F $22` (R536). -/
def execPeaZpY (p : Pfx) (op : Word) (s : State) : Answer := perform .ext .zpY p s (peaBody .zpY p op)

/-- LEA (abs),Y, `$0F $42` (R535). -/
def execLeaIndAbsY (p : Pfx) (op : Word) (s : State) : Answer := perform .ext .indAbsY p s (leaBody .indAbsY p op)

/-- LEA relwide, `$0F $44` (R535). -/
def execLeaRelWide (p : Pfx) (op : Word) (s : State) : Answer := perform .ext .relWideAm p s (leaBody .relWideAm p op)

/-- PEA relwide, `$0F $54` (R536). -/
def execPeaRelWide (p : Pfx) (op : Word) (s : State) : Answer := perform .ext .relWideAm p s (peaBody .relWideAm p op)

/-- LEA (abs,X), `$0F $62` (R535). -/
def execLeaIndAbsX (p : Pfx) (op : Word) (s : State) : Answer := perform .ext .indAbsX p s (leaBody .indAbsX p op)

/-- LEA rel, `$0F $80` (R535). -/
def execLeaRel (p : Pfx) (op : Word) (s : State) : Answer := perform .ext .relAm p s (leaBody .relAm p op)

/-- PEA (zp,X), `$0F $81` (R536). -/
def execPeaIndZpX (p : Pfx) (op : Word) (s : State) : Answer := perform .ext .indZpX p s (peaBody .indZpX p op)

/-- PEA rel, `$0F $82` (R536). -/
def execPeaRel (p : Pfx) (op : Word) (s : State) : Answer := perform .ext .relAm p s (peaBody .relAm p op)

/-- PEA zp, `$0F $85` (R536). -/
def execPeaZp (p : Pfx) (op : Word) (s : State) : Answer := perform .ext .zp p s (peaBody .zp p op)

/-- LEA zp, `$0F $86` (R535). -/
def execLeaZp (p : Pfx) (op : Word) (s : State) : Answer := perform .ext .zp p s (leaBody .zp p op)

/-- PEA (zp),Y, `$0F $91` (R536). -/
def execPeaIndZpY (p : Pfx) (op : Word) (s : State) : Answer := perform .ext .indZpY p s (peaBody .indZpY p op)

/-- PEA (zp), `$0F $92` (R536). -/
def execPeaIndZp (p : Pfx) (op : Word) (s : State) : Answer := perform .ext .indZp p s (peaBody .indZp p op)

/-- PEA zp,X, `$0F $95` (R536). -/
def execPeaZpX (p : Pfx) (op : Word) (s : State) : Answer := perform .ext .zpX p s (peaBody .zpX p op)

/-- LEA zp,X, `$0F $96` (R535). -/
def execLeaZpX (p : Pfx) (op : Word) (s : State) : Answer := perform .ext .zpX p s (leaBody .zpX p op)

/-- PEA abs,Y, `$0F $99` (R536). -/
def execPeaAbsY (p : Pfx) (op : Word) (s : State) : Answer := perform .ext .absY p s (peaBody .absY p op)

/-- LEA (zp,X), `$0F $A1` (R535). -/
def execLeaIndZpX (p : Pfx) (op : Word) (s : State) : Answer := perform .ext .indZpX p s (leaBody .indZpX p op)

/-- PEA abs, `$0F $AD` (R536). -/
def execPeaAbs (p : Pfx) (op : Word) (s : State) : Answer := perform .ext .abs p s (peaBody .abs p op)

/-- LEA abs, `$0F $AE` (R535). -/
def execLeaAbs (p : Pfx) (op : Word) (s : State) : Answer := perform .ext .abs p s (leaBody .abs p op)

/-- LEA (zp),Y, `$0F $B1` (R535). -/
def execLeaIndZpY (p : Pfx) (op : Word) (s : State) : Answer := perform .ext .indZpY p s (leaBody .indZpY p op)

/-- LEA (zp), `$0F $B2` (R535). -/
def execLeaIndZp (p : Pfx) (op : Word) (s : State) : Answer := perform .ext .indZp p s (leaBody .indZp p op)

/-- LEA abs,Y, `$0F $B9` (R535). -/
def execLeaAbsY (p : Pfx) (op : Word) (s : State) : Answer := perform .ext .absY p s (leaBody .absY p op)

/-- PEA abs,X, `$0F $BD` (R536). -/
def execPeaAbsX (p : Pfx) (op : Word) (s : State) : Answer := perform .ext .absX p s (peaBody .absX p op)

/-- LEA abs,X, `$0F $BE` (R535). -/
def execLeaAbsX (p : Pfx) (op : Word) (s : State) : Answer := perform .ext .absX p s (leaBody .absX p op)

/-- PEA (abs),Y, `$0F $C2` (R536). -/
def execPeaIndAbsY (p : Pfx) (op : Word) (s : State) : Answer := perform .ext .indAbsY p s (peaBody .indAbsY p op)

/-- PEA (abs,X), `$0F $E2` (R536). -/
def execPeaIndAbsX (p : Pfx) (op : Word) (s : State) : Answer := perform .ext .indAbsX p s (peaBody .indAbsX p op)

end Sys2Proof.Machine
end

