-- ==== Sys2Proof/Machine/Alu.lean ====
section
/-! DEFINITION. Accumulator arithmetic and logic (spec/43 R350 to R358, spec/46 R509 to R513). -/

namespace Sys2Proof.Machine

/-- `AluWrite(r)`: the low `k` bits of the accumulator (R350). -/
def aluWrite (k : Nat) (r : Word) (s : State) : State := s.setReg .a (insertLow k s.a r)

/-- ORA, AND, EOR (R351 to R353). -/
def logicBody (g : Word → Word → Word) (f : Format) (p : Pfx) (op : Word) (s : State) : Res State :=
  match sourceOperand f p op s with
  | .error h => .error h
  | .ok m =>
    let q := aluArgs s.a p m s
    .ok (unlessNf p (setNZ q.k (g q.l q.m)) (aluWrite q.k (g q.l q.m) s))

/-- ADC, SBC (R354, R355), refused in decimal mode (R358; log entry 11). The carry is read also under NF. -/
def addBody (sub : Bool) (f : Format) (p : Pfx) (op : Word) (s : State) : Res State :=
  if s.sr.d then refuse s .decimalArithmetic
  else match sourceOperand f p op s with
    | .error h => .error h
    | .ok m =>
      let q := aluArgs s.a p m s
      let t := if sub then subC q.k q.l q.m s.sr.c else addC q.k q.l q.m s.sr.c
      .ok (unlessNf p (setNVZC q.k t) (aluWrite q.k t.r s))

/-- ORA (zp,X), `$01` (R351). -/
def execOraIndZpX (p : Pfx) (op : Word) (s : State) : Answer :=
  perform .std .indZpX p s (withWidth p (logicBody (· ||| ·) .indZpX p op))

/-- ORA zp, `$05` (R351). -/
def execOraZp (p : Pfx) (op : Word) (s : State) : Answer :=
  perform .std .zp p s (withWidth p (logicBody (· ||| ·) .zp p op))

/-- ORA #, `$09` (R351). -/
def execOraImm (p : Pfx) (op : Word) (s : State) : Answer :=
  perform .std .imm p s (withWidth p (logicBody (· ||| ·) .imm p op))

/-- ORA abs, `$0D` (R351). -/
def execOraAbs (p : Pfx) (op : Word) (s : State) : Answer :=
  perform .std .abs p s (withWidth p (logicBody (· ||| ·) .abs p op))

/-- ORA (zp),Y, `$11` (R351). -/
def execOraIndZpY (p : Pfx) (op : Word) (s : State) : Answer :=
  perform .std .indZpY p s (withWidth p (logicBody (· ||| ·) .indZpY p op))

/-- ORA (zp), `$12` (R351). -/
def execOraIndZp (p : Pfx) (op : Word) (s : State) : Answer :=
  perform .std .indZp p s (withWidth p (logicBody (· ||| ·) .indZp p op))

/-- ORA zp,X, `$15` (R351). -/
def execOraZpX (p : Pfx) (op : Word) (s : State) : Answer :=
  perform .std .zpX p s (withWidth p (logicBody (· ||| ·) .zpX p op))

/-- ORA abs,Y, `$19` (R351). -/
def execOraAbsY (p : Pfx) (op : Word) (s : State) : Answer :=
  perform .std .absY p s (withWidth p (logicBody (· ||| ·) .absY p op))

/-- ORA abs,X, `$1D` (R351). -/
def execOraAbsX (p : Pfx) (op : Word) (s : State) : Answer :=
  perform .std .absX p s (withWidth p (logicBody (· ||| ·) .absX p op))

/-- AND (zp,X), `$21` (R352). -/
def execAndIndZpX (p : Pfx) (op : Word) (s : State) : Answer :=
  perform .std .indZpX p s (withWidth p (logicBody (· &&& ·) .indZpX p op))

/-- AND zp, `$25` (R352). -/
def execAndZp (p : Pfx) (op : Word) (s : State) : Answer :=
  perform .std .zp p s (withWidth p (logicBody (· &&& ·) .zp p op))

/-- AND #, `$29` (R352). -/
def execAndImm (p : Pfx) (op : Word) (s : State) : Answer :=
  perform .std .imm p s (withWidth p (logicBody (· &&& ·) .imm p op))

/-- AND abs, `$2D` (R352). -/
def execAndAbs (p : Pfx) (op : Word) (s : State) : Answer :=
  perform .std .abs p s (withWidth p (logicBody (· &&& ·) .abs p op))

/-- AND (zp),Y, `$31` (R352). -/
def execAndIndZpY (p : Pfx) (op : Word) (s : State) : Answer :=
  perform .std .indZpY p s (withWidth p (logicBody (· &&& ·) .indZpY p op))

/-- AND (zp), `$32` (R352). -/
def execAndIndZp (p : Pfx) (op : Word) (s : State) : Answer :=
  perform .std .indZp p s (withWidth p (logicBody (· &&& ·) .indZp p op))

/-- AND zp,X, `$35` (R352). -/
def execAndZpX (p : Pfx) (op : Word) (s : State) : Answer :=
  perform .std .zpX p s (withWidth p (logicBody (· &&& ·) .zpX p op))

/-- AND abs,Y, `$39` (R352). -/
def execAndAbsY (p : Pfx) (op : Word) (s : State) : Answer :=
  perform .std .absY p s (withWidth p (logicBody (· &&& ·) .absY p op))

/-- AND abs,X, `$3D` (R352). -/
def execAndAbsX (p : Pfx) (op : Word) (s : State) : Answer :=
  perform .std .absX p s (withWidth p (logicBody (· &&& ·) .absX p op))

/-- EOR (zp,X), `$41` (R353). -/
def execEorIndZpX (p : Pfx) (op : Word) (s : State) : Answer :=
  perform .std .indZpX p s (withWidth p (logicBody (· ^^^ ·) .indZpX p op))

/-- EOR zp, `$45` (R353). -/
def execEorZp (p : Pfx) (op : Word) (s : State) : Answer :=
  perform .std .zp p s (withWidth p (logicBody (· ^^^ ·) .zp p op))

/-- EOR #, `$49` (R353). -/
def execEorImm (p : Pfx) (op : Word) (s : State) : Answer :=
  perform .std .imm p s (withWidth p (logicBody (· ^^^ ·) .imm p op))

/-- EOR abs, `$4D` (R353). -/
def execEorAbs (p : Pfx) (op : Word) (s : State) : Answer :=
  perform .std .abs p s (withWidth p (logicBody (· ^^^ ·) .abs p op))

/-- EOR (zp),Y, `$51` (R353). -/
def execEorIndZpY (p : Pfx) (op : Word) (s : State) : Answer :=
  perform .std .indZpY p s (withWidth p (logicBody (· ^^^ ·) .indZpY p op))

/-- EOR (zp), `$52` (R353). -/
def execEorIndZp (p : Pfx) (op : Word) (s : State) : Answer :=
  perform .std .indZp p s (withWidth p (logicBody (· ^^^ ·) .indZp p op))

/-- EOR zp,X, `$55` (R353). -/
def execEorZpX (p : Pfx) (op : Word) (s : State) : Answer :=
  perform .std .zpX p s (withWidth p (logicBody (· ^^^ ·) .zpX p op))

/-- EOR abs,Y, `$59` (R353). -/
def execEorAbsY (p : Pfx) (op : Word) (s : State) : Answer :=
  perform .std .absY p s (withWidth p (logicBody (· ^^^ ·) .absY p op))

/-- EOR abs,X, `$5D` (R353). -/
def execEorAbsX (p : Pfx) (op : Word) (s : State) : Answer :=
  perform .std .absX p s (withWidth p (logicBody (· ^^^ ·) .absX p op))

/-- ADC (zp,X), `$61` (R354). -/
def execAdcIndZpX (p : Pfx) (op : Word) (s : State) : Answer :=
  perform .std .indZpX p s (withWidth p (addBody false .indZpX p op))

/-- ADC zp, `$65` (R354). -/
def execAdcZp (p : Pfx) (op : Word) (s : State) : Answer :=
  perform .std .zp p s (withWidth p (addBody false .zp p op))

/-- ADC #, `$69` (R354). -/
def execAdcImm (p : Pfx) (op : Word) (s : State) : Answer :=
  perform .std .imm p s (withWidth p (addBody false .imm p op))

/-- ADC abs, `$6D` (R354). -/
def execAdcAbs (p : Pfx) (op : Word) (s : State) : Answer :=
  perform .std .abs p s (withWidth p (addBody false .abs p op))

/-- ADC (zp),Y, `$71` (R354). -/
def execAdcIndZpY (p : Pfx) (op : Word) (s : State) : Answer :=
  perform .std .indZpY p s (withWidth p (addBody false .indZpY p op))

/-- ADC (zp), `$72` (R354). -/
def execAdcIndZp (p : Pfx) (op : Word) (s : State) : Answer :=
  perform .std .indZp p s (withWidth p (addBody false .indZp p op))

/-- ADC zp,X, `$75` (R354). -/
def execAdcZpX (p : Pfx) (op : Word) (s : State) : Answer :=
  perform .std .zpX p s (withWidth p (addBody false .zpX p op))

/-- ADC abs,Y, `$79` (R354). -/
def execAdcAbsY (p : Pfx) (op : Word) (s : State) : Answer :=
  perform .std .absY p s (withWidth p (addBody false .absY p op))

/-- ADC abs,X, `$7D` (R354). -/
def execAdcAbsX (p : Pfx) (op : Word) (s : State) : Answer :=
  perform .std .absX p s (withWidth p (addBody false .absX p op))

/-- SBC (zp,X), `$E1` (R355). -/
def execSbcIndZpX (p : Pfx) (op : Word) (s : State) : Answer :=
  perform .std .indZpX p s (withWidth p (addBody true .indZpX p op))

/-- SBC zp, `$E5` (R355). -/
def execSbcZp (p : Pfx) (op : Word) (s : State) : Answer := perform .std .zp p s (withWidth p (addBody true .zp p op))

/-- SBC #, `$E9` (R355). -/
def execSbcImm (p : Pfx) (op : Word) (s : State) : Answer :=
  perform .std .imm p s (withWidth p (addBody true .imm p op))

/-- SBC abs, `$ED` (R355). -/
def execSbcAbs (p : Pfx) (op : Word) (s : State) : Answer :=
  perform .std .abs p s (withWidth p (addBody true .abs p op))

/-- SBC (zp),Y, `$F1` (R355). -/
def execSbcIndZpY (p : Pfx) (op : Word) (s : State) : Answer :=
  perform .std .indZpY p s (withWidth p (addBody true .indZpY p op))

/-- SBC (zp), `$F2` (R355). -/
def execSbcIndZp (p : Pfx) (op : Word) (s : State) : Answer :=
  perform .std .indZp p s (withWidth p (addBody true .indZp p op))

/-- SBC zp,X, `$F5` (R355). -/
def execSbcZpX (p : Pfx) (op : Word) (s : State) : Answer :=
  perform .std .zpX p s (withWidth p (addBody true .zpX p op))

/-- SBC abs,Y, `$F9` (R355). -/
def execSbcAbsY (p : Pfx) (op : Word) (s : State) : Answer :=
  perform .std .absY p s (withWidth p (addBody true .absY p op))

/-- SBC abs,X, `$FD` (R355). -/
def execSbcAbsX (p : Pfx) (op : Word) (s : State) : Answer :=
  perform .std .absX p s (withWidth p (addBody true .absX p op))

/-- ORA [[zp,X]], `$03` (R351). -/
def execOraQindZpX (p : Pfx) (op : Word) (s : State) : Answer :=
  perform .std .qindZpX p s (withWidth p (logicBody (· ||| ·) .qindZpX p op))

/-- ORA [[zp]],Y, `$13` (R351). -/
def execOraQindZpY (p : Pfx) (op : Word) (s : State) : Answer :=
  perform .std .qindZpY p s (withWidth p (logicBody (· ||| ·) .qindZpY p op))

/-- ORA [[zp]], `$17` (R351). -/
def execOraQindZp (p : Pfx) (op : Word) (s : State) : Answer :=
  perform .std .qindZp p s (withWidth p (logicBody (· ||| ·) .qindZp p op))

/-- AND [[zp,X]], `$23` (R352). -/
def execAndQindZpX (p : Pfx) (op : Word) (s : State) : Answer :=
  perform .std .qindZpX p s (withWidth p (logicBody (· &&& ·) .qindZpX p op))

/-- AND [[zp]],Y, `$33` (R352). -/
def execAndQindZpY (p : Pfx) (op : Word) (s : State) : Answer :=
  perform .std .qindZpY p s (withWidth p (logicBody (· &&& ·) .qindZpY p op))

/-- AND [[zp]], `$37` (R352). -/
def execAndQindZp (p : Pfx) (op : Word) (s : State) : Answer :=
  perform .std .qindZp p s (withWidth p (logicBody (· &&& ·) .qindZp p op))

/-- EOR [[zp,X]], `$43` (R353). -/
def execEorQindZpX (p : Pfx) (op : Word) (s : State) : Answer :=
  perform .std .qindZpX p s (withWidth p (logicBody (· ^^^ ·) .qindZpX p op))

/-- EOR [[zp]],Y, `$53` (R353). -/
def execEorQindZpY (p : Pfx) (op : Word) (s : State) : Answer :=
  perform .std .qindZpY p s (withWidth p (logicBody (· ^^^ ·) .qindZpY p op))

/-- EOR [[zp]], `$57` (R353). -/
def execEorQindZp (p : Pfx) (op : Word) (s : State) : Answer :=
  perform .std .qindZp p s (withWidth p (logicBody (· ^^^ ·) .qindZp p op))

/-- ADC [[zp,X]], `$63` (R354). -/
def execAdcQindZpX (p : Pfx) (op : Word) (s : State) : Answer :=
  perform .std .qindZpX p s (withWidth p (addBody false .qindZpX p op))

/-- ADC [[zp]],Y, `$73` (R354). -/
def execAdcQindZpY (p : Pfx) (op : Word) (s : State) : Answer :=
  perform .std .qindZpY p s (withWidth p (addBody false .qindZpY p op))

/-- ADC [[zp]], `$77` (R354). -/
def execAdcQindZp (p : Pfx) (op : Word) (s : State) : Answer :=
  perform .std .qindZp p s (withWidth p (addBody false .qindZp p op))

/-- SBC [[zp,X]], `$E3` (R355). -/
def execSbcQindZpX (p : Pfx) (op : Word) (s : State) : Answer :=
  perform .std .qindZpX p s (withWidth p (addBody true .qindZpX p op))

/-- SBC [[zp]],Y, `$F3` (R355). -/
def execSbcQindZpY (p : Pfx) (op : Word) (s : State) : Answer :=
  perform .std .qindZpY p s (withWidth p (addBody true .qindZpY p op))

/-- SBC [[zp]], `$F7` (R355). -/
def execSbcQindZp (p : Pfx) (op : Word) (s : State) : Answer :=
  perform .std .qindZp p s (withWidth p (addBody true .qindZp p op))

/-- ORA (E), `$0F $09` (R509). -/
def execOraE (p : Pfx) (s : State) : Answer := perform .ext .eInd p s (withWidth p (logicBody (· ||| ·) .eInd p 0))

/-- AND (E), `$0F $29` (R510). -/
def execAndE (p : Pfx) (s : State) : Answer := perform .ext .eInd p s (withWidth p (logicBody (· &&& ·) .eInd p 0))

/-- EOR (E), `$0F $49` (R511). -/
def execEorE (p : Pfx) (s : State) : Answer := perform .ext .eInd p s (withWidth p (logicBody (· ^^^ ·) .eInd p 0))

/-- ADC (E), `$0F $69` (R512). -/
def execAdcE (p : Pfx) (s : State) : Answer := perform .ext .eInd p s (withWidth p (addBody false .eInd p 0))

/-- SBC (E), `$0F $E9` (R513). -/
def execSbcE (p : Pfx) (s : State) : Answer := perform .ext .eInd p s (withWidth p (addBody true .eInd p 0))

end Sys2Proof.Machine
end

