-- ==== Sys2Proof/Machine/Block.lean ====
section
/-! DEFINITION. Block instructions, one element a step (spec/46 R540 to R543, spec/48 R630 to R635). -/

namespace Sys2Proof.Machine

/-- `BlockStep(body)` (R540): a count of 0 ends the instruction; else one element, the count goes down by `dec`, and the pc
goes back to `start`, the first byte of the instruction, until the count is 0. -/
def blockStep (start dec : Word) (body : State → Res State) (s : State) : Res State :=
  if s.a = 0 then .ok s
  else match body s with
    | .error h => .error h
    | .ok t =>
      let u := t.setReg .a (s.a - dec)
      .ok (if u.a = 0 then u else u.setPc start)

/-- Copy one byte from `X` to `Y` and step both by `d` (R541, R542, R632 to R635). -/
def moveByte (src dst : Env) (d : Word) (s : State) : Res State :=
  match memRead s src s.x 1 with
  | .error h => .error h
  | .ok v => match memWrite s dst s.y 1 v with
    | .error h => .error h
    | .ok t => .ok ((t.setReg .x (s.x + d)).setReg .y (s.y + d))

/-- Write `nb` bytes of `Y` at `X` and step `X` over them (R543, R630). -/
def fillElement (env : Env) (nb : Nat) (s : State) : Res State :=
  match memWrite s env s.x nb s.y with
  | .error h => .error h
  | .ok t => .ok (t.setReg .x (s.x + BitVec.ofNat 64 nb))

/-- FIL (R543): `A` counts elements, or bytes under FIL_COUNT_UNIT; then a count that is no multiple is refused. -/
def fillBody (start : Word) (p : Pfx) (s : State) : Res State := match s.cfg.filUnit with
  | .elements => blockStep start 1 (fillElement s.cur p.size.bytes) s
  | .bytes =>
    if s.a.toNat % p.size.bytes = 0 then
      blockStep start (BitVec.ofNat 64 p.size.bytes) (fillElement s.cur p.size.bytes) s
    else refuse s .fillCountNotMultiple

/-- MVN, `$0F $04` (R542). -/
def execMvn (p : Pfx) (s : State) : Answer :=
  perform .ext .implied p s (fun t => blockStep s.pc 1 (moveByte t.cur t.cur (-1)) t)

/-- MVP, `$0F $14` (R541). -/
def execMvp (p : Pfx) (s : State) : Answer :=
  perform .ext .implied p s (fun t => blockStep s.pc 1 (moveByte t.cur t.cur 1) t)

/-- FIL, `$0F $24` (R543). -/
def execFil (p : Pfx) (s : State) : Answer := perform .ext .implied p s (withWidth p (fillBody s.pc p))

/-- FILU, `$2F $74` (R630). -/
def execFilu (p : Pfx) (s : State) : Answer := perform .sys .implied p s (blockStep s.pc 1 (fillElement .user 1))

/-- MVNFU, `$2F $94` (R633). -/
def execMvnfu (p : Pfx) (s : State) : Answer :=
  perform .sys .implied p s (blockStep s.pc 1 (moveByte .user .hyp (-1)))

/-- MVPFU, `$2F $B4` (R635). -/
def execMvpfu (p : Pfx) (s : State) : Answer := perform .sys .implied p s (blockStep s.pc 1 (moveByte .user .hyp 1))

/-- MVNTU, `$2F $D4` (R632). -/
def execMvntu (p : Pfx) (s : State) : Answer :=
  perform .sys .implied p s (blockStep s.pc 1 (moveByte .hyp .user (-1)))

/-- MVPTU, `$2F $F4` (R634). -/
def execMvptu (p : Pfx) (s : State) : Answer := perform .sys .implied p s (blockStep s.pc 1 (moveByte .hyp .user 1))

end Sys2Proof.Machine
end

