-- ==== Sys2Proof/Machine/Branch.lean ====
section
/-! DEFINITION. Branches, jumps, subroutine calls and returns (spec/44 R400 to R414). -/

namespace Sys2Proof.Machine

/-- `Branch(cond)` (R400): the offset has RS size; one wider than `W` is truncated. -/
def branchBody (taken : Bool) (p : Pfx) (op : Word) (s : State) : Res State :=
  .ok (if taken then s.setPc (relativeTarget .rel p op s) else s)

/-- JMP (R410): to the effective address. -/
def jumpBody (f : Format) (p : Pfx) (op : Word) (s : State) : Res State :=
  match effectiveAddress f p op s with
  | .error h => .error h
  | .ok t => .ok (s.setPc t)

/-- `rb`, the size of a stacked return address (R411). -/
def returnBytes (p : Pfx) : Nat := match p.size with
  | .b8 | .b16 => 2
  | .b32 => 4
  | .b64 => 8

/-- Push `PCnext - 1` and go to a target (R412, R413); a return address wider than `W` is refused (R411). -/
def callTo (p : Pfx) (target : Res Word) (s : State) : Res State :=
  if s.w < 8 * returnBytes p then refuse s .widthTooLarge
  else match target with
    | .error h => .error h
    | .ok t => match push s (s.denv p) (returnBytes p) (s.pc - 1) with
      | .error h => .error h
      | .ok u => .ok (u.setPc t)

/-- JSR (R412): the target is found before the push. -/
def callBody (f : Format) (p : Pfx) (op : Word) (s : State) : Res State := callTo p (effectiveAddress f p op s) s

/-- BSR (R413): relative to `PCnext`, without an offset register. -/
def branchCallBody (f : Format) (p : Pfx) (op : Word) (s : State) : Res State :=
  callTo p (.ok (relativeTarget f p op s)) s

/-- RTS (R414): the pulled address, widened by RTS_EXT, plus 1. -/
def returnBody (p : Pfx) (s : State) : Res State :=
  if s.w < 8 * returnBytes p then refuse s .widthTooLarge
  else match pull s s.cur (returnBytes p) with
    | .error h => .error h
    | .ok (ra, t) =>
      let wide := match s.cfg.rtsExt with
        | .sign => signExt (8 * returnBytes p) s.w ra
        | .zero => low s.w ra
      .ok (t.setPc (wide + 1))

/-- BPL rel, `$10` (R401). -/
def execBpl (p : Pfx) (op : Word) (s : State) : Answer := perform .std .rel p s (branchBody (!s.sr.n) p op)

/-- JSR abs, `$20` (R412). -/
def execJsrAbs (p : Pfx) (op : Word) (s : State) : Answer := perform .std .abs p s (callBody .abs p op)

/-- BMI rel, `$30` (R402). -/
def execBmi (p : Pfx) (op : Word) (s : State) : Answer := perform .std .rel p s (branchBody (s.sr.n) p op)

/-- BSR relwide, `$44` (R413). -/
def execBsrRelWide (p : Pfx) (op : Word) (s : State) : Answer :=
  perform .std .relWideAm p s (branchCallBody .relWideAm p op)

/-- JMP abs, `$4C` (R410). -/
def execJmpAbs (p : Pfx) (op : Word) (s : State) : Answer := perform .std .abs p s (jumpBody .abs p op)

/-- BVC rel, `$50` (R403). -/
def execBvc (p : Pfx) (op : Word) (s : State) : Answer := perform .std .rel p s (branchBody (!s.sr.v) p op)

/-- RTS, `$60` (R414). -/
def execRts (p : Pfx) (s : State) : Answer := perform .std .implied p s (returnBody p)

/-- JMP (abs), `$6C` (R410). -/
def execJmpIndAbs (p : Pfx) (op : Word) (s : State) : Answer := perform .std .indAbs p s (jumpBody .indAbs p op)

/-- BVS rel, `$70` (R404). -/
def execBvs (p : Pfx) (op : Word) (s : State) : Answer := perform .std .rel p s (branchBody (s.sr.v) p op)

/-- JMP (abs,X), `$7C` (R410). -/
def execJmpIndAbsX (p : Pfx) (op : Word) (s : State) : Answer := perform .std .indAbsX p s (jumpBody .indAbsX p op)

/-- BRA rel, `$80` (R409). -/
def execBra (p : Pfx) (op : Word) (s : State) : Answer := perform .std .rel p s (branchBody true p op)

/-- BSR rel, `$82` (R413). -/
def execBsrRel (p : Pfx) (op : Word) (s : State) : Answer := perform .std .relAm p s (branchCallBody .relAm p op)

/-- BCC rel, `$90` (R405). -/
def execBcc (p : Pfx) (op : Word) (s : State) : Answer := perform .std .rel p s (branchBody (!s.sr.c) p op)

/-- BCS rel, `$B0` (R406). -/
def execBcs (p : Pfx) (op : Word) (s : State) : Answer := perform .std .rel p s (branchBody (s.sr.c) p op)

/-- BNE rel, `$D0` (R407). -/
def execBne (p : Pfx) (op : Word) (s : State) : Answer := perform .std .rel p s (branchBody (!s.sr.z) p op)

/-- JSR (abs), `$DC` (R412). -/
def execJsrIndAbs (p : Pfx) (op : Word) (s : State) : Answer := perform .std .indAbs p s (callBody .indAbs p op)

/-- BEQ rel, `$F0` (R408). -/
def execBeq (p : Pfx) (op : Word) (s : State) : Answer := perform .std .rel p s (branchBody (s.sr.z) p op)

/-- JSR (abs,X), `$FC` (R412). -/
def execJsrIndAbsX (p : Pfx) (op : Word) (s : State) : Answer := perform .std .indAbsX p s (callBody .indAbsX p op)

/-- JMP [[abs]], `$07` (R410). -/
def execJmpQindAbs (p : Pfx) (op : Word) (s : State) : Answer := perform .std .qindAbs p s (jumpBody .qindAbs p op)

/-- JMP [[abs,X]], `$27` (R410). -/
def execJmpQindAbsX (p : Pfx) (op : Word) (s : State) : Answer := perform .std .qindAbsX p s (jumpBody .qindAbsX p op)

/-- JSR [[abs]], `$87` (R412). -/
def execJsrQindAbs (p : Pfx) (op : Word) (s : State) : Answer := perform .std .qindAbs p s (callBody .qindAbs p op)

/-- JSR [[abs,X]], `$A7` (R412). -/
def execJsrQindAbsX (p : Pfx) (op : Word) (s : State) : Answer := perform .std .qindAbsX p s (callBody .qindAbsX p op)

/-- JSR (E), `$0F $20` (R412). -/
def execJsrE (p : Pfx) (s : State) : Answer := perform .ext .eInd p s (callBody .eInd p 0)

end Sys2Proof.Machine
end

