-- ==== Sys2Proof/Machine/Compare.lean ====
section
/-! DEFINITION. Compares and bit tests (spec/43 R360 to R364, spec/46 R514 to R517, spec/47 R600). -/

namespace Sys2Proof.Machine

/-- CMP, CPX, CPY (R360, R362, R364). -/
def compareBody (r : Reg) (f : Format) (p : Pfx) (op : Word) (s : State) : Res State :=
  match sourceOperand f p op s with
  | .error h => .error h
  | .ok m => let q := aluArgs (s.reg r) p m s
    .ok (setCompare q.k q.l q.m s)

/-- BIT (R363): `Z` from the AND, `N` and `V` from the two top bits of the operand; the immediate form sets `Z` only. -/
def bitBody (f : Format) (p : Pfx) (op : Word) (s : State) : Res State :=
  match sourceOperand f p op s with
  | .error h => .error h
  | .ok m =>
    let q := aluArgs s.a p m s
    let z := low q.k (q.l &&& q.m) == 0
    .ok (unlessNf p (fun t =>
      if f = .imm then setZ z t
      else { t with sr := { t.sr with n := topBit q.k q.m, v := q.m.getLsbD (q.k - 2), z := z } }) s)

/-- BIT on the accumulator (R600). -/
def bitAccum (p : Pfx) (s : State) : Res State :=
  .ok (unlessNf p (fun t => { t with sr := { t.sr with
    n := topBit (opBits p) s.a
    v := s.a.getLsbD (opBits p - 2)
    z := low (opBits p) s.a == 0 } }) s)

/-- BIT zp, `$24` (R363). -/
def execBitZp (p : Pfx) (op : Word) (s : State) : Answer := perform .std .zp p s (withWidth p (bitBody .zp p op))

/-- BIT abs, `$2C` (R363). -/
def execBitAbs (p : Pfx) (op : Word) (s : State) : Answer := perform .std .abs p s (withWidth p (bitBody .abs p op))

/-- BIT zp,X, `$34` (R363). -/
def execBitZpX (p : Pfx) (op : Word) (s : State) : Answer := perform .std .zpX p s (withWidth p (bitBody .zpX p op))

/-- BIT abs,X, `$3C` (R363). -/
def execBitAbsX (p : Pfx) (op : Word) (s : State) : Answer :=
  perform .std .absX p s (withWidth p (bitBody .absX p op))

/-- BIT #, `$89` (R363). -/
def execBitImm (p : Pfx) (op : Word) (s : State) : Answer := perform .std .imm p s (withWidth p (bitBody .imm p op))

/-- CPY #, `$C0` (R364). -/
def execCpyImm (p : Pfx) (op : Word) (s : State) : Answer :=
  perform .std .imm p s (withWidth p (compareBody .y .imm p op))

/-- CMP (zp,X), `$C1` (R360). -/
def execCmpIndZpX (p : Pfx) (op : Word) (s : State) : Answer :=
  perform .std .indZpX p s (withWidth p (compareBody .a .indZpX p op))

/-- CPY zp, `$C4` (R364). -/
def execCpyZp (p : Pfx) (op : Word) (s : State) : Answer :=
  perform .std .zp p s (withWidth p (compareBody .y .zp p op))

/-- CMP zp, `$C5` (R360). -/
def execCmpZp (p : Pfx) (op : Word) (s : State) : Answer :=
  perform .std .zp p s (withWidth p (compareBody .a .zp p op))

/-- CMP #, `$C9` (R360). -/
def execCmpImm (p : Pfx) (op : Word) (s : State) : Answer :=
  perform .std .imm p s (withWidth p (compareBody .a .imm p op))

/-- CPY abs, `$CC` (R364). -/
def execCpyAbs (p : Pfx) (op : Word) (s : State) : Answer :=
  perform .std .abs p s (withWidth p (compareBody .y .abs p op))

/-- CMP abs, `$CD` (R360). -/
def execCmpAbs (p : Pfx) (op : Word) (s : State) : Answer :=
  perform .std .abs p s (withWidth p (compareBody .a .abs p op))

/-- CMP (zp),Y, `$D1` (R360). -/
def execCmpIndZpY (p : Pfx) (op : Word) (s : State) : Answer :=
  perform .std .indZpY p s (withWidth p (compareBody .a .indZpY p op))

/-- CMP (zp), `$D2` (R360). -/
def execCmpIndZp (p : Pfx) (op : Word) (s : State) : Answer :=
  perform .std .indZp p s (withWidth p (compareBody .a .indZp p op))

/-- CMP zp,X, `$D5` (R360). -/
def execCmpZpX (p : Pfx) (op : Word) (s : State) : Answer :=
  perform .std .zpX p s (withWidth p (compareBody .a .zpX p op))

/-- CMP abs,Y, `$D9` (R360). -/
def execCmpAbsY (p : Pfx) (op : Word) (s : State) : Answer :=
  perform .std .absY p s (withWidth p (compareBody .a .absY p op))

/-- CMP abs,X, `$DD` (R360). -/
def execCmpAbsX (p : Pfx) (op : Word) (s : State) : Answer :=
  perform .std .absX p s (withWidth p (compareBody .a .absX p op))

/-- CPX #, `$E0` (R362). -/
def execCpxImm (p : Pfx) (op : Word) (s : State) : Answer :=
  perform .std .imm p s (withWidth p (compareBody .x .imm p op))

/-- CPX zp, `$E4` (R362). -/
def execCpxZp (p : Pfx) (op : Word) (s : State) : Answer :=
  perform .std .zp p s (withWidth p (compareBody .x .zp p op))

/-- CPX abs, `$EC` (R362). -/
def execCpxAbs (p : Pfx) (op : Word) (s : State) : Answer :=
  perform .std .abs p s (withWidth p (compareBody .x .abs p op))

/-- CMP [[zp,X]], `$C3` (R360). -/
def execCmpQindZpX (p : Pfx) (op : Word) (s : State) : Answer :=
  perform .std .qindZpX p s (withWidth p (compareBody .a .qindZpX p op))

/-- CMP [[zp]],Y, `$D3` (R360). -/
def execCmpQindZpY (p : Pfx) (op : Word) (s : State) : Answer :=
  perform .std .qindZpY p s (withWidth p (compareBody .a .qindZpY p op))

/-- CMP [[zp]], `$D7` (R360). -/
def execCmpQindZp (p : Pfx) (op : Word) (s : State) : Answer :=
  perform .std .qindZp p s (withWidth p (compareBody .a .qindZp p op))

/-- BIT A, `$0F $34` (R600). -/
def execBitA (p : Pfx) (s : State) : Answer := perform .ext .accum p s (withWidth p (bitAccum p))

/-- BIT (E), `$0F $89` (R517). -/
def execBitE (p : Pfx) (s : State) : Answer := perform .ext .eInd p s (withWidth p (bitBody .eInd p 0))

/-- CPY (E), `$0F $C0` (R516). -/
def execCpyE (p : Pfx) (s : State) : Answer := perform .ext .eInd p s (withWidth p (compareBody .y .eInd p 0))

/-- CMP (E), `$0F $C9` (R514). -/
def execCmpE (p : Pfx) (s : State) : Answer := perform .ext .eInd p s (withWidth p (compareBody .a .eInd p 0))

/-- CPX (E), `$0F $E0` (R515). -/
def execCpxE (p : Pfx) (s : State) : Answer := perform .ext .eInd p s (withWidth p (compareBody .x .eInd p 0))

end Sys2Proof.Machine
end

