-- ==== Sys2Proof/Machine/Exceptions.lean ====
section
/-! DEFINITION. BRK, TRP and the returns from exceptions (spec/60 R687 to R692); the sequences are in Machine/Ops.lean. -/

namespace Sys2Proof.Machine

/-- BRK, `$00` (R689). -/
def execBrk (p : Pfx) (s : State) : Answer := perform .std .implied p s takeBreak

/-- RTI, `$40` (R692). -/
def execRti (p : Pfx) (s : State) : Answer := perform .std .implied p s returnFromInterrupt

/-- TRP #, `$F4` (R687). -/
def execTrp (p : Pfx) (op : Word) (s : State) : Answer := perform .std .imm8 p s (takeTrap op)

/-- RTU, `$2F $60` (R629). -/
def execRtu (p : Pfx) (s : State) : Answer := perform .sys .implied p s returnFromTrap

end Sys2Proof.Machine
end

