-- ==== Sys2Proof/Machine/FlagOps.lean ====
section
/-! DEFINITION. Flag instructions and NOP (spec/43 R380 to R387). -/

namespace Sys2Proof.Machine

/-- An instruction that only rewrites the status register. -/
def statusBody (g : Status → Status) (s : State) : Res State := .ok { s with sr := g s.sr }

/-- CLC, `$18` (R380). -/
def execClc (p : Pfx) (s : State) : Answer := perform .std .implied p s (statusBody fun q => { q with c := false })

/-- SEC, `$38` (R381). -/
def execSec (p : Pfx) (s : State) : Answer := perform .std .implied p s (statusBody fun q => { q with c := true })

/-- CLI, `$58` (R382). -/
def execCli (p : Pfx) (s : State) : Answer := perform .std .implied p s (statusBody fun q => { q with i := false })

/-- SEI, `$78` (R383). -/
def execSei (p : Pfx) (s : State) : Answer := perform .std .implied p s (statusBody fun q => { q with i := true })

/-- CLV, `$B8` (R384). -/
def execClv (p : Pfx) (s : State) : Answer := perform .std .implied p s (statusBody fun q => { q with v := false })

/-- CLD, `$D8` (R385). -/
def execCld (p : Pfx) (s : State) : Answer := perform .std .implied p s (statusBody fun q => { q with d := false })

/-- NOP, `$EA` (R387). -/
def execNop (p : Pfx) (s : State) : Answer := perform .std .implied p s (statusBody fun q => q)

/-- SED, `$F8` (R386). -/
def execSed (p : Pfx) (s : State) : Answer := perform .std .implied p s (statusBody fun q => { q with d := true })

end Sys2Proof.Machine
end

