-- ==== Sys2Proof/Machine/Linked.lean ====
section
/-! DEFINITION. Load linked, store conditional and barriers (spec/46 R530 to R533). -/

namespace Sys2Proof.Machine

/-- LLA (R530): a load of `A` from `(E)` that reserves the bytes read. -/
def loadLinkedBody (p : Pfx) (s : State) : Res State :=
  match memRead s (s.denv p) s.e p.size.bytes with
  | .error h => .error h
  | .ok m =>
    let t := s.setReg .a (loadInto (opBits p) s.w (p.extension .zero) s.a m)
    .ok (unlessNf p (setNZ (opBits p) m)
      { t with link := some { env := s.denv p, addr := s.e, nb := p.size.bytes } })

/-- SCA (R531): stores and clears `V` if the reservation names the same access, else sets `V`; the reservation is gone. -/
def storeConditionalBody (p : Pfx) (s : State) : Res State :=
  if s.link = some { env := s.denv p, addr := s.e, nb := p.size.bytes } then
    match memWrite s (s.denv p) s.e p.size.bytes s.a with
    | .error h => .error h
    | .ok t => .ok ((setV false t).unlink)
  else .ok ((setV true s).unlink)

/-- RMB and WMB change no architectural state in a machine without caches (R132, R133, R532, R533). -/
def barrierBody (s : State) : Res State := .ok s

/-- RMB, `$0F $64` (R532). -/
def execRmb (p : Pfx) (s : State) : Answer := perform .ext .implied p s barrierBody

/-- WMB, `$0F $74` (R533). -/
def execWmb (p : Pfx) (s : State) : Answer := perform .ext .implied p s barrierBody

/-- SCA (E), `$0F $84` (R531). -/
def execScaE (p : Pfx) (s : State) : Answer := perform .ext .eInd p s (withWidth p (storeConditionalBody p))

/-- LLA (E), `$0F $94` (R530). -/
def execLlaE (p : Pfx) (s : State) : Answer := perform .ext .eInd p s (withWidth p (loadLinkedBody p))

/-- RMB (E), `$0F $E4` (R532). -/
def execRmbE (p : Pfx) (s : State) : Answer := perform .ext .eInd p s barrierBody

/-- WMB (E), `$0F $F4` (R533). -/
def execWmbE (p : Pfx) (s : State) : Answer := perform .ext .eInd p s barrierBody

end Sys2Proof.Machine
end

