-- ==== Sys2Proof/Machine/Loads.lean ====
section
/-! DEFINITION. Loads of A, X, Y, E and B (spec/42 R301 to R303, spec/46 R501 to R503, spec/47 R575, R576). -/

namespace Sys2Proof.Machine

/-- A load (R301, R575): the register takes the value as LEeff says (default zero-extension, R254); `N` and `Z` come from
the value read, at width `n` (R261). -/
def loadBody (r : Reg) (f : Format) (p : Pfx) (op : Word) (s : State) : Res State :=
  match sourceOperand f p op s with
  | .error h => .error h
  | .ok m => .ok (unlessNf p (setNZ (opBits p) m)
      (s.setReg r (loadInto (opBits p) s.w (p.extension .zero) (s.reg r) m)))

/-- LDA zp,Y, `$02` (R301). -/
def execLdaZpY (p : Pfx) (op : Word) (s : State) : Answer :=
  perform .std .zpY p s (withWidth p (loadBody .a .zpY p op))

/-- LDA (abs),Y, `$42` (R301). -/
def execLdaIndAbsY (p : Pfx) (op : Word) (s : State) : Answer :=
  perform .std .indAbsY p s (withWidth p (loadBody .a .indAbsY p op))

/-- LDA (abs,X), `$62` (R301). -/
def execLdaIndAbsX (p : Pfx) (op : Word) (s : State) : Answer :=
  perform .std .indAbsX p s (withWidth p (loadBody .a .indAbsX p op))

/-- LDY #, `$A0` (R303). -/
def execLdyImm (p : Pfx) (op : Word) (s : State) : Answer :=
  perform .std .imm p s (withWidth p (loadBody .y .imm p op))

/-- LDA (zp,X), `$A1` (R301). -/
def execLdaIndZpX (p : Pfx) (op : Word) (s : State) : Answer :=
  perform .std .indZpX p s (withWidth p (loadBody .a .indZpX p op))

/-- LDX #, `$A2` (R302). -/
def execLdxImm (p : Pfx) (op : Word) (s : State) : Answer :=
  perform .std .imm p s (withWidth p (loadBody .x .imm p op))

/-- LDY zp, `$A4` (R303). -/
def execLdyZp (p : Pfx) (op : Word) (s : State) : Answer := perform .std .zp p s (withWidth p (loadBody .y .zp p op))

/-- LDA zp, `$A5` (R301). -/
def execLdaZp (p : Pfx) (op : Word) (s : State) : Answer := perform .std .zp p s (withWidth p (loadBody .a .zp p op))

/-- LDX zp, `$A6` (R302). -/
def execLdxZp (p : Pfx) (op : Word) (s : State) : Answer := perform .std .zp p s (withWidth p (loadBody .x .zp p op))

/-- LDA #, `$A9` (R301). -/
def execLdaImm (p : Pfx) (op : Word) (s : State) : Answer :=
  perform .std .imm p s (withWidth p (loadBody .a .imm p op))

/-- LDY abs, `$AC` (R303). -/
def execLdyAbs (p : Pfx) (op : Word) (s : State) : Answer :=
  perform .std .abs p s (withWidth p (loadBody .y .abs p op))

/-- LDA abs, `$AD` (R301). -/
def execLdaAbs (p : Pfx) (op : Word) (s : State) : Answer :=
  perform .std .abs p s (withWidth p (loadBody .a .abs p op))

/-- LDX abs, `$AE` (R302). -/
def execLdxAbs (p : Pfx) (op : Word) (s : State) : Answer :=
  perform .std .abs p s (withWidth p (loadBody .x .abs p op))

/-- LDA (zp),Y, `$B1` (R301). -/
def execLdaIndZpY (p : Pfx) (op : Word) (s : State) : Answer :=
  perform .std .indZpY p s (withWidth p (loadBody .a .indZpY p op))

/-- LDA (zp), `$B2` (R301). -/
def execLdaIndZp (p : Pfx) (op : Word) (s : State) : Answer :=
  perform .std .indZp p s (withWidth p (loadBody .a .indZp p op))

/-- LDY zp,X, `$B4` (R303). -/
def execLdyZpX (p : Pfx) (op : Word) (s : State) : Answer :=
  perform .std .zpX p s (withWidth p (loadBody .y .zpX p op))

/-- LDA zp,X, `$B5` (R301). -/
def execLdaZpX (p : Pfx) (op : Word) (s : State) : Answer :=
  perform .std .zpX p s (withWidth p (loadBody .a .zpX p op))

/-- LDX zp,Y, `$B6` (R302). -/
def execLdxZpY (p : Pfx) (op : Word) (s : State) : Answer :=
  perform .std .zpY p s (withWidth p (loadBody .x .zpY p op))

/-- LDA abs,Y, `$B9` (R301). -/
def execLdaAbsY (p : Pfx) (op : Word) (s : State) : Answer :=
  perform .std .absY p s (withWidth p (loadBody .a .absY p op))

/-- LDY abs,X, `$BC` (R303). -/
def execLdyAbsX (p : Pfx) (op : Word) (s : State) : Answer :=
  perform .std .absX p s (withWidth p (loadBody .y .absX p op))

/-- LDA abs,X, `$BD` (R301). -/
def execLdaAbsX (p : Pfx) (op : Word) (s : State) : Answer :=
  perform .std .absX p s (withWidth p (loadBody .a .absX p op))

/-- LDX abs,Y, `$BE` (R302). -/
def execLdxAbsY (p : Pfx) (op : Word) (s : State) : Answer :=
  perform .std .absY p s (withWidth p (loadBody .x .absY p op))

/-- LDA [[abs]],Y, `$47` (R301). -/
def execLdaQindAbsY (p : Pfx) (op : Word) (s : State) : Answer :=
  perform .std .qindAbsY p s (withWidth p (loadBody .a .qindAbsY p op))

/-- LDA [[abs,X]], `$67` (R301). -/
def execLdaQindAbsX (p : Pfx) (op : Word) (s : State) : Answer :=
  perform .std .qindAbsX p s (withWidth p (loadBody .a .qindAbsX p op))

/-- LDA [[zp,X]], `$A3` (R301). -/
def execLdaQindZpX (p : Pfx) (op : Word) (s : State) : Answer :=
  perform .std .qindZpX p s (withWidth p (loadBody .a .qindZpX p op))

/-- LDA [[zp]],Y, `$B3` (R301). -/
def execLdaQindZpY (p : Pfx) (op : Word) (s : State) : Answer :=
  perform .std .qindZpY p s (withWidth p (loadBody .a .qindZpY p op))

/-- LDA [[zp]], `$B7` (R301). -/
def execLdaQindZp (p : Pfx) (op : Word) (s : State) : Answer :=
  perform .std .qindZp p s (withWidth p (loadBody .a .qindZp p op))

/-- LDE #, `$0F $39` (R575). -/
def execLdeImm (p : Pfx) (op : Word) (s : State) : Answer :=
  perform .ext .imm p s (withWidth p (loadBody .e .imm p op))

/-- LDB #, `$0F $59` (R576). -/
def execLdbImm (p : Pfx) (op : Word) (s : State) : Answer :=
  perform .ext .imm p s (withWidth p (loadBody .b .imm p op))

/-- LDY (E), `$0F $A0` (R503). -/
def execLdyE (p : Pfx) (s : State) : Answer := perform .ext .eInd p s (withWidth p (loadBody .y .eInd p 0))

/-- LDX (E), `$0F $A2` (R502). -/
def execLdxE (p : Pfx) (s : State) : Answer := perform .ext .eInd p s (withWidth p (loadBody .x .eInd p 0))

/-- LDA (E), `$0F $A9` (R501). -/
def execLdaE (p : Pfx) (s : State) : Answer := perform .ext .eInd p s (withWidth p (loadBody .a .eInd p 0))

end Sys2Proof.Machine
end

