-- ==== Sys2Proof/Machine/Quick.lean ====
section
/-! DEFINITION. The QUICK page (spec/45 R440 to R474). -/

namespace Sys2Proof.Machine

/-- `QuickReg(R, step)` (R474): the step `nnn + 1` times on the low `n` bits, one write, one flag update. -/
def quickRegBody (k : Step1) (r : Reg) (p : Pfx) (cnt : BitVec 3) (s : State) : Res State :=
  let vc := k.repeated (opBits p) (cnt.toNat + 1) (low (opBits p) (s.reg r)) s.sr.c
  .ok (unlessNf p (k.setFlags (opBits p) vc) (s.setReg r (insertLow (opBits p) (s.reg r) vc.1)))

/-- `QuickMem(EA, step)` (R474): one byte read, the step `nnn + 1` times at width 8, one byte written (R473). -/
def quickMemBody (k : Step1) (f : Format) (p : Pfx) (op : Word) (cnt : BitVec 3) (s : State) : Res State :=
  match effectiveAddress f p op s with
  | .error h => .error h
  | .ok ea => match memRead s (s.denv p) ea 1 with
    | .error h => .error h
    | .ok m =>
      let vc := k.repeated 8 (cnt.toNat + 1) m s.sr.c
      match memWrite s (s.denv p) ea 1 vc.1 with
      | .error h => .error h
      | .ok t => .ok (unlessNf p (k.setFlags 8 vc) t)

/-- INY #n, `$4F $00` (R441). -/
def execInyQuick (p : Pfx) (cnt : BitVec 3) (s : State) : Answer :=
  perform .quick .quickReg p s (withWidth p (quickRegBody .inc .y p cnt))

/-- DEY #n, `$4F $80` (R442). -/
def execDeyQuick (p : Pfx) (cnt : BitVec 3) (s : State) : Answer :=
  perform .quick .quickReg p s (withWidth p (quickRegBody .dec .y p cnt))

/-- INX #n, `$4F $01` (R443). -/
def execInxQuick (p : Pfx) (cnt : BitVec 3) (s : State) : Answer :=
  perform .quick .quickReg p s (withWidth p (quickRegBody .inc .x p cnt))

/-- DEX #n, `$4F $81` (R444). -/
def execDexQuick (p : Pfx) (cnt : BitVec 3) (s : State) : Answer :=
  perform .quick .quickReg p s (withWidth p (quickRegBody .dec .x p cnt))

/-- INC #n, `$4F $02` (R445). -/
def execIncQuick (p : Pfx) (cnt : BitVec 3) (s : State) : Answer :=
  perform .quick .quickReg p s (withWidth p (quickRegBody .inc .a p cnt))

/-- DEC #n, `$4F $82` (R446). -/
def execDecQuick (p : Pfx) (cnt : BitVec 3) (s : State) : Answer :=
  perform .quick .quickReg p s (withWidth p (quickRegBody .dec .a p cnt))

/-- ROL #n, `$4F $03` (R447). -/
def execRolQuick (p : Pfx) (cnt : BitVec 3) (s : State) : Answer :=
  perform .quick .quickReg p s (withWidth p (quickRegBody .rol .a p cnt))

/-- ROR #n, `$4F $83` (R448). -/
def execRorQuick (p : Pfx) (cnt : BitVec 3) (s : State) : Answer :=
  perform .quick .quickReg p s (withWidth p (quickRegBody .ror .a p cnt))

/-- ASL #n, `$4F $04` (R449). -/
def execAslQuick (p : Pfx) (cnt : BitVec 3) (s : State) : Answer :=
  perform .quick .quickReg p s (withWidth p (quickRegBody .asl .a p cnt))

/-- LSR #n, `$4F $84` (R450). -/
def execLsrQuick (p : Pfx) (cnt : BitVec 3) (s : State) : Answer :=
  perform .quick .quickReg p s (withWidth p (quickRegBody .lsr .a p cnt))

/-- RDL #n, `$4F $05` (R451). -/
def execRdlQuick (p : Pfx) (cnt : BitVec 3) (s : State) : Answer :=
  perform .quick .quickReg p s (withWidth p (quickRegBody .rdl .a p cnt))

/-- RDR #n, `$4F $85` (R452). -/
def execRdrQuick (p : Pfx) (cnt : BitVec 3) (s : State) : Answer :=
  perform .quick .quickReg p s (withWidth p (quickRegBody .rdr .a p cnt))

/-- INC #n,(E), `$4F $06` (R458). -/
def execIncQuickE (p : Pfx) (cnt : BitVec 3) (s : State) : Answer :=
  perform .quick .quickE p s (quickMemBody .inc .quickE p 0 cnt)

/-- DEC #n,(E), `$4F $86` (R459). -/
def execDecQuickE (p : Pfx) (cnt : BitVec 3) (s : State) : Answer :=
  perform .quick .quickE p s (quickMemBody .dec .quickE p 0 cnt)

/-- ROL #n,(E), `$4F $07` (R460). -/
def execRolQuickE (p : Pfx) (cnt : BitVec 3) (s : State) : Answer :=
  perform .quick .quickE p s (quickMemBody .rol .quickE p 0 cnt)

/-- ROR #n,(E), `$4F $87` (R461). -/
def execRorQuickE (p : Pfx) (cnt : BitVec 3) (s : State) : Answer :=
  perform .quick .quickE p s (quickMemBody .ror .quickE p 0 cnt)

/-- RDL #n,(E), `$4F $08` (R462). -/
def execRdlQuickE (p : Pfx) (cnt : BitVec 3) (s : State) : Answer :=
  perform .quick .quickE p s (quickMemBody .rdl .quickE p 0 cnt)

/-- RDR #n,(E), `$4F $88` (R463). -/
def execRdrQuickE (p : Pfx) (cnt : BitVec 3) (s : State) : Answer :=
  perform .quick .quickE p s (quickMemBody .rdr .quickE p 0 cnt)

/-- ASL #n,(E), `$4F $09` (R464). -/
def execAslQuickE (p : Pfx) (cnt : BitVec 3) (s : State) : Answer :=
  perform .quick .quickE p s (quickMemBody .asl .quickE p 0 cnt)

/-- LSR #n,(E), `$4F $89` (R465). -/
def execLsrQuickE (p : Pfx) (cnt : BitVec 3) (s : State) : Answer :=
  perform .quick .quickE p s (quickMemBody .lsr .quickE p 0 cnt)

/-- SLX #n, `$4F $0A` (R454). -/
def execSlxQuick (p : Pfx) (cnt : BitVec 3) (s : State) : Answer :=
  perform .quick .quickReg p s (withWidth p (quickRegBody .asl .x p cnt))

/-- SRX #n, `$4F $8A` (R455). -/
def execSrxQuick (p : Pfx) (cnt : BitVec 3) (s : State) : Answer :=
  perform .quick .quickReg p s (withWidth p (quickRegBody .lsr .x p cnt))

/-- SLY #n, `$4F $0B` (R456). -/
def execSlyQuick (p : Pfx) (cnt : BitVec 3) (s : State) : Answer :=
  perform .quick .quickReg p s (withWidth p (quickRegBody .asl .y p cnt))

/-- SRY #n, `$4F $8B` (R457). -/
def execSryQuick (p : Pfx) (cnt : BitVec 3) (s : State) : Answer :=
  perform .quick .quickReg p s (withWidth p (quickRegBody .lsr .y p cnt))

/-- ASR #n, `$4F $0C` (R453). -/
def execAsrQuick (p : Pfx) (cnt : BitVec 3) (s : State) : Answer :=
  perform .quick .quickReg p s (withWidth p (quickRegBody .asr .a p cnt))

/-- ASR #n,(E), `$4F $8C` (R466). -/
def execAsrQuickE (p : Pfx) (cnt : BitVec 3) (s : State) : Answer :=
  perform .quick .quickE p s (quickMemBody .asr .quickE p 0 cnt)

/-- INC #n,zp, `$4F $0D` (R467). -/
def execIncQuickZp (p : Pfx) (op : Word) (cnt : BitVec 3) (s : State) : Answer :=
  perform .quick .quickZp p s (quickMemBody .inc .quickZp p op cnt)

/-- DEC #n,zp, `$4F $8D` (R468). -/
def execDecQuickZp (p : Pfx) (op : Word) (cnt : BitVec 3) (s : State) : Answer :=
  perform .quick .quickZp p s (quickMemBody .dec .quickZp p op cnt)

/-- ROL #n,zp, `$4F $0E` (R469). -/
def execRolQuickZp (p : Pfx) (op : Word) (cnt : BitVec 3) (s : State) : Answer :=
  perform .quick .quickZp p s (quickMemBody .rol .quickZp p op cnt)

/-- ROR #n,zp, `$4F $8E` (R470). -/
def execRorQuickZp (p : Pfx) (op : Word) (cnt : BitVec 3) (s : State) : Answer :=
  perform .quick .quickZp p s (quickMemBody .ror .quickZp p op cnt)

/-- ASL #n,zp, `$4F $0F` (R471). -/
def execAslQuickZp (p : Pfx) (op : Word) (cnt : BitVec 3) (s : State) : Answer :=
  perform .quick .quickZp p s (quickMemBody .asl .quickZp p op cnt)

/-- LSR #n,zp, `$4F $8F` (R472). -/
def execLsrQuickZp (p : Pfx) (op : Word) (cnt : BitVec 3) (s : State) : Answer :=
  perform .quick .quickZp p s (quickMemBody .lsr .quickZp p op cnt)

end Sys2Proof.Machine
end

