-- ==== Sys2Proof/Machine/ReadModify.lean ====
section
/-! DEFINITION. Increments, shifts, rotates, TSB and TRB (spec/43 R365 to R376, spec/46 R518 to R528). -/

namespace Sys2Proof.Machine

/-- A read-modify-write of memory (R255, R365, R371): one read, one write, then the flags at width `n`. -/
def modifyBody (k : Step1) (f : Format) (p : Pfx) (op : Word) (s : State) : Res State :=
  match effectiveAddress f p op s with
  | .error h => .error h
  | .ok ea => match memRead s (s.denv p) ea p.size.bytes with
    | .error h => .error h
    | .ok m =>
      let vc := k.apply (opBits p) m s.sr.c
      match memWrite s (s.denv p) ea p.size.bytes vc.1 with
      | .error h => .error h
      | .ok t => .ok (unlessNf p (k.setFlags (opBits p) vc) t)

/-- The same on the low `n` bits of a register (R255, R365, R367). -/
def stepBody (k : Step1) (r : Reg) (p : Pfx) (s : State) : Res State :=
  let vc := k.apply (opBits p) (s.reg r) s.sr.c
  .ok (unlessNf p (k.setFlags (opBits p) vc) (s.setReg r (insertLow (opBits p) (s.reg r) vc.1)))

/-- TSB and TRB (R375, R376): `Z` from the AND, then the accumulator's bits set or cleared in memory. -/
def testBody (setBits : Bool) (f : Format) (p : Pfx) (op : Word) (s : State) : Res State :=
  match effectiveAddress f p op s with
  | .error h => .error h
  | .ok ea => match memRead s (s.denv p) ea p.size.bytes with
    | .error h => .error h
    | .ok m =>
      match memWrite s (s.denv p) ea p.size.bytes (if setBits then m ||| s.a else m &&& ~~~s.a) with
      | .error h => .error h
      | .ok t => .ok (unlessNf p (setZ (low (opBits p) (s.a &&& m) == 0)) t)

/-- TSB zp, `$04` (R375). -/
def execTsbZp (p : Pfx) (op : Word) (s : State) : Answer :=
  perform .std .zp p s (withWidth p (testBody true .zp p op))

/-- ASL zp, `$06` (R371). -/
def execAslZp (p : Pfx) (op : Word) (s : State) : Answer :=
  perform .std .zp p s (withWidth p (modifyBody .asl .zp p op))

/-- ASL A, `$0A` (R371). -/
def execAslA (p : Pfx) (s : State) : Answer := perform .std .accum p s (withWidth p (stepBody .asl .a p))

/-- TSB abs, `$0C` (R375). -/
def execTsbAbs (p : Pfx) (op : Word) (s : State) : Answer :=
  perform .std .abs p s (withWidth p (testBody true .abs p op))

/-- ASL abs, `$0E` (R371). -/
def execAslAbs (p : Pfx) (op : Word) (s : State) : Answer :=
  perform .std .abs p s (withWidth p (modifyBody .asl .abs p op))

/-- TRB zp, `$14` (R376). -/
def execTrbZp (p : Pfx) (op : Word) (s : State) : Answer :=
  perform .std .zp p s (withWidth p (testBody false .zp p op))

/-- ASL zp,X, `$16` (R371). -/
def execAslZpX (p : Pfx) (op : Word) (s : State) : Answer :=
  perform .std .zpX p s (withWidth p (modifyBody .asl .zpX p op))

/-- INC A, `$1A` (R365). -/
def execIncA (p : Pfx) (s : State) : Answer := perform .std .accum p s (withWidth p (stepBody .inc .a p))

/-- TRB abs, `$1C` (R376). -/
def execTrbAbs (p : Pfx) (op : Word) (s : State) : Answer :=
  perform .std .abs p s (withWidth p (testBody false .abs p op))

/-- ASL abs,X, `$1E` (R371). -/
def execAslAbsX (p : Pfx) (op : Word) (s : State) : Answer :=
  perform .std .absX p s (withWidth p (modifyBody .asl .absX p op))

/-- ASL abs,Y, `$1F` (R371). -/
def execAslAbsY (p : Pfx) (op : Word) (s : State) : Answer :=
  perform .std .absY p s (withWidth p (modifyBody .asl .absY p op))

/-- ROL zp, `$26` (R373). -/
def execRolZp (p : Pfx) (op : Word) (s : State) : Answer :=
  perform .std .zp p s (withWidth p (modifyBody .rol .zp p op))

/-- ROL A, `$2A` (R373). -/
def execRolA (p : Pfx) (s : State) : Answer := perform .std .accum p s (withWidth p (stepBody .rol .a p))

/-- ROL abs, `$2E` (R373). -/
def execRolAbs (p : Pfx) (op : Word) (s : State) : Answer :=
  perform .std .abs p s (withWidth p (modifyBody .rol .abs p op))

/-- ROL zp,X, `$36` (R373). -/
def execRolZpX (p : Pfx) (op : Word) (s : State) : Answer :=
  perform .std .zpX p s (withWidth p (modifyBody .rol .zpX p op))

/-- DEC A, `$3A` (R366). -/
def execDecA (p : Pfx) (s : State) : Answer := perform .std .accum p s (withWidth p (stepBody .dec .a p))

/-- ROL abs,X, `$3E` (R373). -/
def execRolAbsX (p : Pfx) (op : Word) (s : State) : Answer :=
  perform .std .absX p s (withWidth p (modifyBody .rol .absX p op))

/-- ROL abs,Y, `$3F` (R373). -/
def execRolAbsY (p : Pfx) (op : Word) (s : State) : Answer :=
  perform .std .absY p s (withWidth p (modifyBody .rol .absY p op))

/-- LSR zp, `$46` (R372). -/
def execLsrZp (p : Pfx) (op : Word) (s : State) : Answer :=
  perform .std .zp p s (withWidth p (modifyBody .lsr .zp p op))

/-- LSR A, `$4A` (R372). -/
def execLsrA (p : Pfx) (s : State) : Answer := perform .std .accum p s (withWidth p (stepBody .lsr .a p))

/-- LSR abs, `$4E` (R372). -/
def execLsrAbs (p : Pfx) (op : Word) (s : State) : Answer :=
  perform .std .abs p s (withWidth p (modifyBody .lsr .abs p op))

/-- LSR zp,X, `$56` (R372). -/
def execLsrZpX (p : Pfx) (op : Word) (s : State) : Answer :=
  perform .std .zpX p s (withWidth p (modifyBody .lsr .zpX p op))

/-- LSR abs,X, `$5E` (R372). -/
def execLsrAbsX (p : Pfx) (op : Word) (s : State) : Answer :=
  perform .std .absX p s (withWidth p (modifyBody .lsr .absX p op))

/-- LSR abs,Y, `$5F` (R372). -/
def execLsrAbsY (p : Pfx) (op : Word) (s : State) : Answer :=
  perform .std .absY p s (withWidth p (modifyBody .lsr .absY p op))

/-- ROR zp, `$66` (R374). -/
def execRorZp (p : Pfx) (op : Word) (s : State) : Answer :=
  perform .std .zp p s (withWidth p (modifyBody .ror .zp p op))

/-- ROR A, `$6A` (R374). -/
def execRorA (p : Pfx) (s : State) : Answer := perform .std .accum p s (withWidth p (stepBody .ror .a p))

/-- ROR abs, `$6E` (R374). -/
def execRorAbs (p : Pfx) (op : Word) (s : State) : Answer :=
  perform .std .abs p s (withWidth p (modifyBody .ror .abs p op))

/-- ROR zp,X, `$76` (R374). -/
def execRorZpX (p : Pfx) (op : Word) (s : State) : Answer :=
  perform .std .zpX p s (withWidth p (modifyBody .ror .zpX p op))

/-- ROR abs,X, `$7E` (R374). -/
def execRorAbsX (p : Pfx) (op : Word) (s : State) : Answer :=
  perform .std .absX p s (withWidth p (modifyBody .ror .absX p op))

/-- ROR abs,Y, `$7F` (R374). -/
def execRorAbsY (p : Pfx) (op : Word) (s : State) : Answer :=
  perform .std .absY p s (withWidth p (modifyBody .ror .absY p op))

/-- DEY, `$88` (R370). -/
def execDey (p : Pfx) (s : State) : Answer := perform .std .implied p s (withWidth p (stepBody .dec .y p))

/-- DEC zp, `$C6` (R366). -/
def execDecZp (p : Pfx) (op : Word) (s : State) : Answer :=
  perform .std .zp p s (withWidth p (modifyBody .dec .zp p op))

/-- INY, `$C8` (R368). -/
def execIny (p : Pfx) (s : State) : Answer := perform .std .implied p s (withWidth p (stepBody .inc .y p))

/-- DEX, `$CA` (R369). -/
def execDex (p : Pfx) (s : State) : Answer := perform .std .implied p s (withWidth p (stepBody .dec .x p))

/-- DEC abs, `$CE` (R366). -/
def execDecAbs (p : Pfx) (op : Word) (s : State) : Answer :=
  perform .std .abs p s (withWidth p (modifyBody .dec .abs p op))

/-- DEC zp,X, `$D6` (R366). -/
def execDecZpX (p : Pfx) (op : Word) (s : State) : Answer :=
  perform .std .zpX p s (withWidth p (modifyBody .dec .zpX p op))

/-- DEC abs,X, `$DE` (R366). -/
def execDecAbsX (p : Pfx) (op : Word) (s : State) : Answer :=
  perform .std .absX p s (withWidth p (modifyBody .dec .absX p op))

/-- DEC abs,Y, `$DF` (R366). -/
def execDecAbsY (p : Pfx) (op : Word) (s : State) : Answer :=
  perform .std .absY p s (withWidth p (modifyBody .dec .absY p op))

/-- INC zp, `$E6` (R365). -/
def execIncZp (p : Pfx) (op : Word) (s : State) : Answer :=
  perform .std .zp p s (withWidth p (modifyBody .inc .zp p op))

/-- INX, `$E8` (R367). -/
def execInx (p : Pfx) (s : State) : Answer := perform .std .implied p s (withWidth p (stepBody .inc .x p))

/-- INC abs, `$EE` (R365). -/
def execIncAbs (p : Pfx) (op : Word) (s : State) : Answer :=
  perform .std .abs p s (withWidth p (modifyBody .inc .abs p op))

/-- INC zp,X, `$F6` (R365). -/
def execIncZpX (p : Pfx) (op : Word) (s : State) : Answer :=
  perform .std .zpX p s (withWidth p (modifyBody .inc .zpX p op))

/-- INC abs,X, `$FE` (R365). -/
def execIncAbsX (p : Pfx) (op : Word) (s : State) : Answer :=
  perform .std .absX p s (withWidth p (modifyBody .inc .absX p op))

/-- INC abs,Y, `$FF` (R365). -/
def execIncAbsY (p : Pfx) (op : Word) (s : State) : Answer :=
  perform .std .absY p s (withWidth p (modifyBody .inc .absY p op))

/-- ASR zp, `$0F $06` (R526). -/
def execAsrZp (p : Pfx) (op : Word) (s : State) : Answer :=
  perform .ext .zp p s (withWidth p (modifyBody .asr .zp p op))

/-- ASR A, `$0F $0A` (R526). -/
def execAsrA (p : Pfx) (s : State) : Answer := perform .ext .accum p s (withWidth p (stepBody .asr .a p))

/-- TSB (E), `$0F $0C` (R518). -/
def execTsbE (p : Pfx) (s : State) : Answer := perform .ext .eInd p s (withWidth p (testBody true .eInd p 0))

/-- ASL (E), `$0F $0D` (R520). -/
def execAslE (p : Pfx) (s : State) : Answer := perform .ext .eInd p s (withWidth p (modifyBody .asl .eInd p 0))

/-- ASR abs, `$0F $0E` (R526). -/
def execAsrAbs (p : Pfx) (op : Word) (s : State) : Answer :=
  perform .ext .abs p s (withWidth p (modifyBody .asr .abs p op))

/-- ASR zp,X, `$0F $16` (R526). -/
def execAsrZpX (p : Pfx) (op : Word) (s : State) : Answer :=
  perform .ext .zpX p s (withWidth p (modifyBody .asr .zpX p op))

/-- TRB (E), `$0F $1C` (R519). -/
def execTrbE (p : Pfx) (s : State) : Answer := perform .ext .eInd p s (withWidth p (testBody false .eInd p 0))

/-- ASR (E), `$0F $1D` (R526). -/
def execAsrE (p : Pfx) (s : State) : Answer := perform .ext .eInd p s (withWidth p (modifyBody .asr .eInd p 0))

/-- ASR abs,X, `$0F $1E` (R526). -/
def execAsrAbsX (p : Pfx) (op : Word) (s : State) : Answer :=
  perform .ext .absX p s (withWidth p (modifyBody .asr .absX p op))

/-- ASR abs,Y, `$0F $1F` (R526). -/
def execAsrAbsY (p : Pfx) (op : Word) (s : State) : Answer :=
  perform .ext .absY p s (withWidth p (modifyBody .asr .absY p op))

/-- RDL zp, `$0F $26` (R527). -/
def execRdlZp (p : Pfx) (op : Word) (s : State) : Answer :=
  perform .ext .zp p s (withWidth p (modifyBody .rdl .zp p op))

/-- RDL A, `$0F $2A` (R527). -/
def execRdlA (p : Pfx) (s : State) : Answer := perform .ext .accum p s (withWidth p (stepBody .rdl .a p))

/-- ROL (E), `$0F $2D` (R521). -/
def execRolE (p : Pfx) (s : State) : Answer := perform .ext .eInd p s (withWidth p (modifyBody .rol .eInd p 0))

/-- RDL abs, `$0F $2E` (R527). -/
def execRdlAbs (p : Pfx) (op : Word) (s : State) : Answer :=
  perform .ext .abs p s (withWidth p (modifyBody .rdl .abs p op))

/-- RDL zp,X, `$0F $36` (R527). -/
def execRdlZpX (p : Pfx) (op : Word) (s : State) : Answer :=
  perform .ext .zpX p s (withWidth p (modifyBody .rdl .zpX p op))

/-- RDL (E), `$0F $3D` (R527). -/
def execRdlE (p : Pfx) (s : State) : Answer := perform .ext .eInd p s (withWidth p (modifyBody .rdl .eInd p 0))

/-- RDL abs,X, `$0F $3E` (R527). -/
def execRdlAbsX (p : Pfx) (op : Word) (s : State) : Answer :=
  perform .ext .absX p s (withWidth p (modifyBody .rdl .absX p op))

/-- RDL abs,Y, `$0F $3F` (R527). -/
def execRdlAbsY (p : Pfx) (op : Word) (s : State) : Answer :=
  perform .ext .absY p s (withWidth p (modifyBody .rdl .absY p op))

/-- LSR (E), `$0F $4D` (R522). -/
def execLsrE (p : Pfx) (s : State) : Answer := perform .ext .eInd p s (withWidth p (modifyBody .lsr .eInd p 0))

/-- RDR zp, `$0F $66` (R528). -/
def execRdrZp (p : Pfx) (op : Word) (s : State) : Answer :=
  perform .ext .zp p s (withWidth p (modifyBody .rdr .zp p op))

/-- RDR A, `$0F $6A` (R528). -/
def execRdrA (p : Pfx) (s : State) : Answer := perform .ext .accum p s (withWidth p (stepBody .rdr .a p))

/-- ROR (E), `$0F $6D` (R523). -/
def execRorE (p : Pfx) (s : State) : Answer := perform .ext .eInd p s (withWidth p (modifyBody .ror .eInd p 0))

/-- RDR abs, `$0F $6E` (R528). -/
def execRdrAbs (p : Pfx) (op : Word) (s : State) : Answer :=
  perform .ext .abs p s (withWidth p (modifyBody .rdr .abs p op))

/-- RDR zp,X, `$0F $76` (R528). -/
def execRdrZpX (p : Pfx) (op : Word) (s : State) : Answer :=
  perform .ext .zpX p s (withWidth p (modifyBody .rdr .zpX p op))

/-- RDR (E), `$0F $7D` (R528). -/
def execRdrE (p : Pfx) (s : State) : Answer := perform .ext .eInd p s (withWidth p (modifyBody .rdr .eInd p 0))

/-- RDR abs,X, `$0F $7E` (R528). -/
def execRdrAbsX (p : Pfx) (op : Word) (s : State) : Answer :=
  perform .ext .absX p s (withWidth p (modifyBody .rdr .absX p op))

/-- RDR abs,Y, `$0F $7F` (R528). -/
def execRdrAbsY (p : Pfx) (op : Word) (s : State) : Answer :=
  perform .ext .absY p s (withWidth p (modifyBody .rdr .absY p op))

/-- DEC (E), `$0F $CD` (R525). -/
def execDecE (p : Pfx) (s : State) : Answer := perform .ext .eInd p s (withWidth p (modifyBody .dec .eInd p 0))

/-- INC (E), `$0F $ED` (R524). -/
def execIncE (p : Pfx) (s : State) : Answer := perform .ext .eInd p s (withWidth p (modifyBody .inc .eInd p 0))

end Sys2Proof.Machine
end

