-- ==== Sys2Proof/Machine/Stack.lean ====
section
/-! DEFINITION. Pushes and pulls (spec/42 R315 to R323, spec/47 R578 to R582). -/

namespace Sys2Proof.Machine

/-- Push the low `n` bits of a value on the stack of the data environment (R269, R271). -/
def pushBody (p : Pfx) (v : Word) (s : State) : Res State := push s (s.denv p) p.size.bytes v

/-- Push a whole register (R271, R578). -/
def pushWhole (p : Pfx) (v : Word) (s : State) : Res State := push s (s.denv p) s.wBytes v

/-- Pull `nb` bytes into a register as a load does (R318). -/
def pullBody (r : Reg) (p : Pfx) (s : State) : Res State :=
  match pull s (s.denv p) p.size.bytes with
  | .error h => .error h
  | .ok (m, t) => .ok (unlessNf p (setNZ (opBits p) m)
      (t.setReg r (loadInto (opBits p) s.w (p.extension .zero) (s.reg r) m)))

/-- Pull a whole register; `N` and `Z` at width `W` (R579). -/
def pullWhole (r : Reg) (p : Pfx) (s : State) : Res State :=
  match pull s (s.denv p) s.wBytes with
  | .error h => .error h
  | .ok (m, t) => .ok (unlessNf p (setNZ s.w m) (t.setReg r m))

/-- PHP: the status byte with bits 5 and 4 set (R321). -/
def pushStatus (s : State) : Res State := push s s.cur 1 ((statusByte s.sr true true).setWidth 64)

/-- PLP: the six flags from the stack; the extended status byte stays (R323). -/
def pullStatus (s : State) : Res State :=
  match pull s s.cur 1 with
  | .error h => .error h
  | .ok (m, t) => .ok { t with sr := t.sr.load (m.setWidth 8) }

/-- PRB: push `B`, then take `A` into it; `N` and `Z` at width `W` (R582). -/
def pushReplaceBase (p : Pfx) (s : State) : Res State :=
  match push s (s.denv p) s.wBytes s.b with
  | .error h => .error h
  | .ok t => .ok (unlessNf p (setNZ s.w s.a) (t.setReg .b s.a))

/-- PHP, `$08` (R321). -/
def execPhp (p : Pfx) (s : State) : Answer := perform .std .implied p s pushStatus

/-- PLP, `$28` (R323). -/
def execPlp (p : Pfx) (s : State) : Answer := perform .std .implied p s pullStatus

/-- PHA, `$48` (R315). -/
def execPha (p : Pfx) (s : State) : Answer := perform .std .implied p s (withWidth p (fun t => pushBody p t.a t))

/-- PHY, `$5A` (R317). -/
def execPhy (p : Pfx) (s : State) : Answer := perform .std .implied p s (withWidth p (fun t => pushBody p t.y t))

/-- PLA, `$68` (R318). -/
def execPla (p : Pfx) (s : State) : Answer := perform .std .implied p s (withWidth p (pullBody .a p))

/-- PLY, `$7A` (R320). -/
def execPly (p : Pfx) (s : State) : Answer := perform .std .implied p s (withWidth p (pullBody .y p))

/-- PHX, `$DA` (R316). -/
def execPhx (p : Pfx) (s : State) : Answer := perform .std .implied p s (withWidth p (fun t => pushBody p t.x t))

/-- PLX, `$FA` (R319). -/
def execPlx (p : Pfx) (s : State) : Answer := perform .std .implied p s (withWidth p (pullBody .x p))

/-- PHE, `$0F $08` (R578). -/
def execPhe (p : Pfx) (s : State) : Answer := perform .ext .implied p s (fun t => pushWhole p t.e t)

/-- PLE, `$0F $28` (R579). -/
def execPle (p : Pfx) (s : State) : Answer := perform .ext .implied p s (pullWhole .e p)

/-- PHB, `$0F $48` (R580). -/
def execPhb (p : Pfx) (s : State) : Answer := perform .ext .implied p s (fun t => pushWhole p t.b t)

/-- PRB, `$0F $58` (R582). -/
def execPrb (p : Pfx) (s : State) : Answer := perform .ext .implied p s (pushReplaceBase p)

/-- PLB, `$0F $68` (R581). -/
def execPlb (p : Pfx) (s : State) : Answer := perform .ext .implied p s (pullWhole .b p)

end Sys2Proof.Machine
end

