-- ==== Sys2Proof/Machine/Stores.lean ====
section
/-! DEFINITION. Stores (spec/42 R304 to R307, spec/46 R504 to R508). -/

namespace Sys2Proof.Machine

/-- A store of the low `n` bits of a value (R304, R307). -/
def storeBody (f : Format) (p : Pfx) (op v : Word) (s : State) : Res State :=
  match effectiveAddress f p op s with
  | .error h => .error h
  | .ok ea => memWrite s (s.denv p) ea p.size.bytes v

/-- STA zp,Y, `$22` (R304). -/
def execStaZpY (p : Pfx) (op : Word) (s : State) : Answer :=
  perform .std .zpY p s (withWidth p (fun t => storeBody .zpY p op t.a t))

/-- STZ zp, `$64` (R307). -/
def execStzZp (p : Pfx) (op : Word) (s : State) : Answer := perform .std .zp p s (withWidth p (storeBody .zp p op 0))

/-- STZ zp,X, `$74` (R307). -/
def execStzZpX (p : Pfx) (op : Word) (s : State) : Answer :=
  perform .std .zpX p s (withWidth p (storeBody .zpX p op 0))

/-- STA (zp,X), `$81` (R304). -/
def execStaIndZpX (p : Pfx) (op : Word) (s : State) : Answer :=
  perform .std .indZpX p s (withWidth p (fun t => storeBody .indZpX p op t.a t))

/-- STY zp, `$84` (R306). -/
def execStyZp (p : Pfx) (op : Word) (s : State) : Answer :=
  perform .std .zp p s (withWidth p (fun t => storeBody .zp p op t.y t))

/-- STA zp, `$85` (R304). -/
def execStaZp (p : Pfx) (op : Word) (s : State) : Answer :=
  perform .std .zp p s (withWidth p (fun t => storeBody .zp p op t.a t))

/-- STX zp, `$86` (R305). -/
def execStxZp (p : Pfx) (op : Word) (s : State) : Answer :=
  perform .std .zp p s (withWidth p (fun t => storeBody .zp p op t.x t))

/-- STY abs, `$8C` (R306). -/
def execStyAbs (p : Pfx) (op : Word) (s : State) : Answer :=
  perform .std .abs p s (withWidth p (fun t => storeBody .abs p op t.y t))

/-- STA abs, `$8D` (R304). -/
def execStaAbs (p : Pfx) (op : Word) (s : State) : Answer :=
  perform .std .abs p s (withWidth p (fun t => storeBody .abs p op t.a t))

/-- STX abs, `$8E` (R305). -/
def execStxAbs (p : Pfx) (op : Word) (s : State) : Answer :=
  perform .std .abs p s (withWidth p (fun t => storeBody .abs p op t.x t))

/-- STA (zp),Y, `$91` (R304). -/
def execStaIndZpY (p : Pfx) (op : Word) (s : State) : Answer :=
  perform .std .indZpY p s (withWidth p (fun t => storeBody .indZpY p op t.a t))

/-- STA (zp), `$92` (R304). -/
def execStaIndZp (p : Pfx) (op : Word) (s : State) : Answer :=
  perform .std .indZp p s (withWidth p (fun t => storeBody .indZp p op t.a t))

/-- STY zp,X, `$94` (R306). -/
def execStyZpX (p : Pfx) (op : Word) (s : State) : Answer :=
  perform .std .zpX p s (withWidth p (fun t => storeBody .zpX p op t.y t))

/-- STA zp,X, `$95` (R304). -/
def execStaZpX (p : Pfx) (op : Word) (s : State) : Answer :=
  perform .std .zpX p s (withWidth p (fun t => storeBody .zpX p op t.a t))

/-- STX zp,Y, `$96` (R305). -/
def execStxZpY (p : Pfx) (op : Word) (s : State) : Answer :=
  perform .std .zpY p s (withWidth p (fun t => storeBody .zpY p op t.x t))

/-- STA abs,Y, `$99` (R304). -/
def execStaAbsY (p : Pfx) (op : Word) (s : State) : Answer :=
  perform .std .absY p s (withWidth p (fun t => storeBody .absY p op t.a t))

/-- STZ abs, `$9C` (R307). -/
def execStzAbs (p : Pfx) (op : Word) (s : State) : Answer :=
  perform .std .abs p s (withWidth p (storeBody .abs p op 0))

/-- STA abs,X, `$9D` (R304). -/
def execStaAbsX (p : Pfx) (op : Word) (s : State) : Answer :=
  perform .std .absX p s (withWidth p (fun t => storeBody .absX p op t.a t))

/-- STZ abs,X, `$9E` (R307). -/
def execStzAbsX (p : Pfx) (op : Word) (s : State) : Answer :=
  perform .std .absX p s (withWidth p (storeBody .absX p op 0))

/-- STY abs,X, `$9F` (R306). -/
def execStyAbsX (p : Pfx) (op : Word) (s : State) : Answer :=
  perform .std .absX p s (withWidth p (fun t => storeBody .absX p op t.y t))

/-- STX abs,Y, `$BF` (R305). -/
def execStxAbsY (p : Pfx) (op : Word) (s : State) : Answer :=
  perform .std .absY p s (withWidth p (fun t => storeBody .absY p op t.x t))

/-- STA (abs),Y, `$C2` (R304). -/
def execStaIndAbsY (p : Pfx) (op : Word) (s : State) : Answer :=
  perform .std .indAbsY p s (withWidth p (fun t => storeBody .indAbsY p op t.a t))

/-- STA (abs,X), `$E2` (R304). -/
def execStaIndAbsX (p : Pfx) (op : Word) (s : State) : Answer :=
  perform .std .indAbsX p s (withWidth p (fun t => storeBody .indAbsX p op t.a t))

/-- STA [[zp,X]], `$83` (R304). -/
def execStaQindZpX (p : Pfx) (op : Word) (s : State) : Answer :=
  perform .std .qindZpX p s (withWidth p (fun t => storeBody .qindZpX p op t.a t))

/-- STA [[zp]],Y, `$93` (R304). -/
def execStaQindZpY (p : Pfx) (op : Word) (s : State) : Answer :=
  perform .std .qindZpY p s (withWidth p (fun t => storeBody .qindZpY p op t.a t))

/-- STA [[zp]], `$97` (R304). -/
def execStaQindZp (p : Pfx) (op : Word) (s : State) : Answer :=
  perform .std .qindZp p s (withWidth p (fun t => storeBody .qindZp p op t.a t))

/-- STA [[abs]],Y, `$C7` (R304). -/
def execStaQindAbsY (p : Pfx) (op : Word) (s : State) : Answer :=
  perform .std .qindAbsY p s (withWidth p (fun t => storeBody .qindAbsY p op t.a t))

/-- STA [[abs,X]], `$E7` (R304). -/
def execStaQindAbsX (p : Pfx) (op : Word) (s : State) : Answer :=
  perform .std .qindAbsX p s (withWidth p (fun t => storeBody .qindAbsX p op t.a t))

/-- STY (E), `$0F $8C` (R506). -/
def execStyE (p : Pfx) (s : State) : Answer :=
  perform .ext .eInd p s (withWidth p (fun t => storeBody .eInd p 0 t.y t))

/-- STA (E), `$0F $8D` (R504). -/
def execStaE (p : Pfx) (s : State) : Answer :=
  perform .ext .eInd p s (withWidth p (fun t => storeBody .eInd p 0 t.a t))

/-- STX (E), `$0F $8E` (R505). -/
def execStxE (p : Pfx) (s : State) : Answer :=
  perform .ext .eInd p s (withWidth p (fun t => storeBody .eInd p 0 t.x t))

/-- STZ (E), `$0F $9C` (R507). -/
def execStzE (p : Pfx) (s : State) : Answer := perform .ext .eInd p s (withWidth p (storeBody .eInd p 0 0))

/-- STZ abs,Y, `$0F $9E` (R508). -/
def execStzAbsY (p : Pfx) (op : Word) (s : State) : Answer :=
  perform .ext .absY p s (withWidth p (storeBody .absY p op 0))

end Sys2Proof.Machine
end

