-- ==== Sys2Proof/Machine/System.lean ====
section
/-! DEFINITION. System instructions (spec/48 R619 to R637). -/

namespace Sys2Proof.Machine

/-- A refusal of a configuration register access. -/
def orRefuse {α : Type} (s : State) : Except Refusal α → Res α
  | .ok v => .ok v
  | .error r => refuse s r

/-- LCR (R620): `N` and `Z` at width `W`. -/
def loadConfigBody (op : Word) (s : State) : Res State :=
  match orRefuse s (readConfig s (op.setWidth 8)) with
  | .error h => .error h
  | .ok v => .ok (setNZ s.w v (s.setReg .a v))

/-- SCR (R621). -/
def storeConfigBody (op : Word) (s : State) : Res State := orRefuse s (writeConfig s (op.setWidth 8) s.a)

/-- BCR (R622): as BIT at width `W`. -/
def testConfigBody (op : Word) (s : State) : Res State :=
  match orRefuse s (readConfig s (op.setWidth 8)) with
  | .error h => .error h
  | .ok v => .ok { s with sr := { s.sr with
      n := topBit s.w v
      v := v.getLsbD (s.w - 2)
      z := low s.w (s.a &&& v) == 0 } }

/-- The container an SENV names, refused without an MMU or from NCONT on (R623). -/
def containerIndex (op : Word) (s : State) : Res Nat :=
  let cc := (low 8 op).toNat
  if s.cfg.mmu = false ∨ s.cfg.ncont ≤ cc then refuse s (.containerNumber cc) else .ok cc

/-- SENV from `A`, `X`, `Y` (R623). -/
def setContainerBody (op : Word) (s : State) : Res State :=
  match containerIndex op s with
  | .error h => .error h
  | .ok cc => .ok { s with cont := s.cont.set cc { mask := s.a, cmp := s.x, off := s.y } }

/-- SENV from three words at `E`, all read before the set is written (R624). -/
def loadContainerBody (op : Word) (s : State) : Res State :=
  match containerIndex op s with
  | .error h => .error h
  | .ok cc => match memRead s s.cur s.e s.wBytes with
    | .error h => .error h
    | .ok m => match memRead s s.cur (s.e + BitVec.ofNat 64 s.wBytes) s.wBytes with
      | .error h => .error h
      | .ok c => match memRead s s.cur (s.e + BitVec.ofNat 64 (2 * s.wBytes)) s.wBytes with
        | .error h => .error h
        | .ok o => .ok { s with cont := s.cont.set cc { mask := m, cmp := c, off := o } }

/-- JPU abs (R625): the target is found in hypervisor mode, then `H` is cleared. -/
def enterUserBody (p : Pfx) (op : Word) (s : State) : Res State :=
  if s.cfg.hyp = false then refuse s .jpuWithoutHyp
  else match effectiveAddress .abs p op s with
    | .error h => .error h
    | .ok t => .ok ((s.setH false).setPc t)

/-- JPU (abs) (R626): the pointer's address is found in hypervisor mode, the pointer read in the user's environment. -/
def enterUserIndirectBody (p : Pfx) (op : Word) (s : State) : Res State :=
  if s.cfg.hyp = false then refuse s .jpuWithoutHyp
  else match readPointer .user .indAbs p (operandAddress .indAbs p op s + offsetValue p s) (s.setH false) with
    | .error h => .error h
    | .ok t => .ok ((s.setH false).setPc t)

/-- CLEIM (R627). -/
def clearEimBody (s : State) : Res State := .ok (s.setEim s.imr)

/-- WAI (R636). -/
def waitBody (s : State) : Res State := .ok { s with run := .waiting }

/-- STP (R637): the core's own bit of MC_ACTCORE is cleared. -/
def stopBody (s : State) : Res State := .ok s.stopCore

/-- LCR #, `$2F $01` (R620). -/
def execLcr (p : Pfx) (op : Word) (s : State) : Answer := perform .sys .imm8 p s (loadConfigBody op)

/-- SENV #, `$2F $04` (R623). -/
def execSenv (p : Pfx) (op : Word) (s : State) : Answer := perform .sys .imm8 p s (setContainerBody op)

/-- SENV zp,(E), `$2F $14` (R624). -/
def execSenvE (p : Pfx) (op : Word) (s : State) : Answer := perform .sys .zpE p s (loadContainerBody op)

/-- SCR #, `$2F $21` (R621). -/
def execScr (p : Pfx) (op : Word) (s : State) : Answer := perform .sys .imm8 p s (storeConfigBody op)

/-- BCR #, `$2F $41` (R622). -/
def execBcr (p : Pfx) (op : Word) (s : State) : Answer := perform .sys .imm8 p s (testConfigBody op)

/-- SMMU, `$2F $44` (R628). -/
def execSmmu (p : Pfx) (s : State) : Answer := perform .sys .implied p s (fun t => refuse t .mmuBaseUndefined)

/-- JPU abs, `$2F $4C` (R625). -/
def execJpuAbs (p : Pfx) (op : Word) (s : State) : Answer := perform .sys .abs p s (enterUserBody p op)

/-- CLEIM, `$2F $55` (R627). -/
def execCleim (p : Pfx) (s : State) : Answer := perform .sys .implied p s clearEimBody

/-- JPU (abs), `$2F $6C` (R626). -/
def execJpuIndAbs (p : Pfx) (op : Word) (s : State) : Answer :=
  performFrom (s.setH false) .sys .indAbs p s (enterUserIndirectBody p op)

/-- WAI, `$2F $D1` (R636). -/
def execWai (p : Pfx) (s : State) : Answer := perform .sys .implied p s waitBody

/-- STP, `$2F $F1` (R637). -/
def execStp (p : Pfx) (s : State) : Answer := perform .sys .implied p s stopBody

end Sys2Proof.Machine
end

