-- ==== Sys2Proof/Machine/Transfers.lean ====
section
/-! DEFINITION. Register transfers and swaps (spec/42 R308 to R314, R322, spec/47 R585 to R599). -/

namespace Sys2Proof.Machine

/-- `Transfer(dst, src)` (R308): the low `n` bits of the source, extended by LEeff (default zero-extension); `N` and `Z` at
width `n`. -/
def transferBody (dst : Reg) (p : Pfx) (src : Word) (s : State) : Res State :=
  let m := low (opBits p) src
  .ok (unlessNf p (setNZ (opBits p) m)
    (s.setReg dst (loadInto (opBits p) s.w (p.extension .zero) (s.reg dst) m)))

/-- The prefix fields are those of an instruction without prefix bytes (R154). A prefix1 whose bits are all default gives the
same fields (spec/95 section 2.1, `03 A9 12`); that it is unprefixed for TXS_DEFAULT_LE too is DEDUCED (log entry 30). -/
def unprefixed (p : Pfx) : Bool := p.p2 == Option.none && p.offset == .none && p.size == .b8 && !p.am

/-- LEeff of TXS and TYS: of the unprefixed form TXS_DEFAULT_LE (R4, R322, R593); otherwise, as of every transfer, the LE field
of prefix2, or zero-extension without a prefix2 (R253). -/
def toStackExtension (p : Pfx) (c : Config) : Extension :=
  match unprefixed p, c.txsDefault with
  | true, .none => .none
  | _, _ => p.extension .zero

/-- TXS and TYS (R322, R593): the low `n` bits of the source go to the stack pointer of the data environment; no flags. -/
def toStackBody (p : Pfx) (src : Word) (s : State) : Res State :=
  .ok (s.setSp (s.denv p)
    (loadInto (opBits p) s.w (toStackExtension p s.cfg) (s.sp (s.denv p)) (low (opBits p) src)))

/-- A transfer of a whole register (R586, R588, R591): `N` and `Z` at width `W`. -/
def wholeTransfer (dst : Reg) (p : Pfx) (v : Word) (s : State) : Res State :=
  .ok (unlessNf p (setNZ s.w v) (s.setReg dst v))

/-- Swap two whole registers; no flags (R595). -/
def swapBody (q r : Reg) (s : State) : Res State := .ok ((s.setReg q (s.reg r)).setReg r (s.reg q))

/-- TXA, `$8A` (R312). -/
def execTxa (p : Pfx) (s : State) : Answer :=
  perform .std .implied p s (withWidth p (fun t => transferBody .a p t.x t))

/-- TYA, `$98` (R313). -/
def execTya (p : Pfx) (s : State) : Answer :=
  perform .std .implied p s (withWidth p (fun t => transferBody .a p t.y t))

/-- TXS, `$9A` (R322). -/
def execTxs (p : Pfx) (s : State) : Answer := perform .std .implied p s (withWidth p (fun t => toStackBody p t.x t))

/-- TAY, `$A8` (R311). -/
def execTay (p : Pfx) (s : State) : Answer :=
  perform .std .implied p s (withWidth p (fun t => transferBody .y p t.a t))

/-- TAX, `$AA` (R310). -/
def execTax (p : Pfx) (s : State) : Answer :=
  perform .std .implied p s (withWidth p (fun t => transferBody .x p t.a t))

/-- TSX, `$BA` (R314). -/
def execTsx (p : Pfx) (s : State) : Answer :=
  perform .std .implied p s (withWidth p (fun t => transferBody .x p (t.sp (t.denv p)) t))

/-- TAE, `$0F $88` (R585). -/
def execTae (p : Pfx) (s : State) : Answer :=
  perform .ext .implied p s (withWidth p (fun t => transferBody .e p t.a t))

/-- TYS, `$0F $8A` (R593). -/
def execTys (p : Pfx) (s : State) : Answer := perform .ext .implied p s (withWidth p (fun t => toStackBody p t.y t))

/-- TEA, `$0F $98` (R586). -/
def execTea (p : Pfx) (s : State) : Answer := perform .ext .implied p s (fun t => wholeTransfer .a p t.e t)

/-- SXY, `$0F $9A` (R595). -/
def execSxy (p : Pfx) (s : State) : Answer := perform .ext .implied p s (swapBody .x .y)

/-- SEB, `$0F $B8` (R599). -/
def execSeb (p : Pfx) (s : State) : Answer := perform .ext .implied p s (swapBody .e .b)

/-- SAX, `$0F $BA` (R596). -/
def execSax (p : Pfx) (s : State) : Answer := perform .ext .implied p s (swapBody .a .x)

/-- TPA, `$0F $C8` (R591). -/
def execTpa (p : Pfx) (s : State) : Answer := perform .ext .implied p s (fun t => wholeTransfer .a p t.pc t)

/-- TSY, `$0F $CA` (R592). -/
def execTsy (p : Pfx) (s : State) : Answer :=
  perform .ext .implied p s (withWidth p (fun t => transferBody .y p (t.sp (t.denv p)) t))

/-- SAE, `$0F $D8` (R598). -/
def execSae (p : Pfx) (s : State) : Answer := perform .ext .implied p s (swapBody .a .e)

/-- SAY, `$0F $DA` (R597). -/
def execSay (p : Pfx) (s : State) : Answer := perform .ext .implied p s (swapBody .a .y)

/-- TAB, `$0F $E8` (R587). -/
def execTab (p : Pfx) (s : State) : Answer :=
  perform .ext .implied p s (withWidth p (fun t => transferBody .b p t.a t))

/-- TEB, `$0F $EA` (R589). -/
def execTeb (p : Pfx) (s : State) : Answer :=
  perform .ext .implied p s (withWidth p (fun t => transferBody .b p t.e t))

/-- TBA, `$0F $F8` (R588). -/
def execTba (p : Pfx) (s : State) : Answer := perform .ext .implied p s (fun t => wholeTransfer .a p t.b t)

/-- TBE, `$0F $FA` (R590). -/
def execTbe (p : Pfx) (s : State) : Answer :=
  perform .ext .implied p s (withWidth p (fun t => transferBody .e p t.b t))

end Sys2Proof.Machine
end

