-- ==== Sys2Proof/Machine/Dispatch.lean ====
section
/-! DEFINITION. `exec`: one arm per constructor of Instr, each one call of its meaning. -/

namespace Sys2Proof.Machine

def exec (i : Instr) (s : State) : Host.Outcome State Fault Refusal :=
  match i with
  -- std page
  | .brk p => Sys2Proof.Machine.execBrk p s
  | .oraIndZpX p op => Sys2Proof.Machine.execOraIndZpX p op s
  | .ldaZpY p op => Sys2Proof.Machine.execLdaZpY p op s
  | .tsbZp p op => Sys2Proof.Machine.execTsbZp p op s
  | .oraZp p op => Sys2Proof.Machine.execOraZp p op s
  | .aslZp p op => Sys2Proof.Machine.execAslZp p op s
  | .php p => Sys2Proof.Machine.execPhp p s
  | .oraImm p op => Sys2Proof.Machine.execOraImm p op s
  | .aslA p => Sys2Proof.Machine.execAslA p s
  | .tsbAbs p op => Sys2Proof.Machine.execTsbAbs p op s
  | .oraAbs p op => Sys2Proof.Machine.execOraAbs p op s
  | .aslAbs p op => Sys2Proof.Machine.execAslAbs p op s
  | .bpl p op => Sys2Proof.Machine.execBpl p op s
  | .oraIndZpY p op => Sys2Proof.Machine.execOraIndZpY p op s
  | .oraIndZp p op => Sys2Proof.Machine.execOraIndZp p op s
  | .trbZp p op => Sys2Proof.Machine.execTrbZp p op s
  | .oraZpX p op => Sys2Proof.Machine.execOraZpX p op s
  | .aslZpX p op => Sys2Proof.Machine.execAslZpX p op s
  | .clc p => Sys2Proof.Machine.execClc p s
  | .oraAbsY p op => Sys2Proof.Machine.execOraAbsY p op s
  | .incA p => Sys2Proof.Machine.execIncA p s
  | .trbAbs p op => Sys2Proof.Machine.execTrbAbs p op s
  | .oraAbsX p op => Sys2Proof.Machine.execOraAbsX p op s
  | .aslAbsX p op => Sys2Proof.Machine.execAslAbsX p op s
  | .aslAbsY p op => Sys2Proof.Machine.execAslAbsY p op s
  | .jsrAbs p op => Sys2Proof.Machine.execJsrAbs p op s
  | .andIndZpX p op => Sys2Proof.Machine.execAndIndZpX p op s
  | .staZpY p op => Sys2Proof.Machine.execStaZpY p op s
  | .bitZp p op => Sys2Proof.Machine.execBitZp p op s
  | .andZp p op => Sys2Proof.Machine.execAndZp p op s
  | .rolZp p op => Sys2Proof.Machine.execRolZp p op s
  | .plp p => Sys2Proof.Machine.execPlp p s
  | .andImm p op => Sys2Proof.Machine.execAndImm p op s
  | .rolA p => Sys2Proof.Machine.execRolA p s
  | .bitAbs p op => Sys2Proof.Machine.execBitAbs p op s
  | .andAbs p op => Sys2Proof.Machine.execAndAbs p op s
  | .rolAbs p op => Sys2Proof.Machine.execRolAbs p op s
  | .bmi p op => Sys2Proof.Machine.execBmi p op s
  | .andIndZpY p op => Sys2Proof.Machine.execAndIndZpY p op s
  | .andIndZp p op => Sys2Proof.Machine.execAndIndZp p op s
  | .bitZpX p op => Sys2Proof.Machine.execBitZpX p op s
  | .andZpX p op => Sys2Proof.Machine.execAndZpX p op s
  | .rolZpX p op => Sys2Proof.Machine.execRolZpX p op s
  | .sec p => Sys2Proof.Machine.execSec p s
  | .andAbsY p op => Sys2Proof.Machine.execAndAbsY p op s
  | .decA p => Sys2Proof.Machine.execDecA p s
  | .bitAbsX p op => Sys2Proof.Machine.execBitAbsX p op s
  | .andAbsX p op => Sys2Proof.Machine.execAndAbsX p op s
  | .rolAbsX p op => Sys2Proof.Machine.execRolAbsX p op s
  | .rolAbsY p op => Sys2Proof.Machine.execRolAbsY p op s
  | .rti p => Sys2Proof.Machine.execRti p s
  | .eorIndZpX p op => Sys2Proof.Machine.execEorIndZpX p op s
  | .ldaIndAbsY p op => Sys2Proof.Machine.execLdaIndAbsY p op s
  | .bsrRelWide p op => Sys2Proof.Machine.execBsrRelWide p op s
  | .eorZp p op => Sys2Proof.Machine.execEorZp p op s
  | .lsrZp p op => Sys2Proof.Machine.execLsrZp p op s
  | .pha p => Sys2Proof.Machine.execPha p s
  | .eorImm p op => Sys2Proof.Machine.execEorImm p op s
  | .lsrA p => Sys2Proof.Machine.execLsrA p s
  | .jmpAbs p op => Sys2Proof.Machine.execJmpAbs p op s
  | .eorAbs p op => Sys2Proof.Machine.execEorAbs p op s
  | .lsrAbs p op => Sys2Proof.Machine.execLsrAbs p op s
  | .bvc p op => Sys2Proof.Machine.execBvc p op s
  | .eorIndZpY p op => Sys2Proof.Machine.execEorIndZpY p op s
  | .eorIndZp p op => Sys2Proof.Machine.execEorIndZp p op s
  | .eorZpX p op => Sys2Proof.Machine.execEorZpX p op s
  | .lsrZpX p op => Sys2Proof.Machine.execLsrZpX p op s
  | .cli p => Sys2Proof.Machine.execCli p s
  | .eorAbsY p op => Sys2Proof.Machine.execEorAbsY p op s
  | .phy p => Sys2Proof.Machine.execPhy p s
  | .eorAbsX p op => Sys2Proof.Machine.execEorAbsX p op s
  | .lsrAbsX p op => Sys2Proof.Machine.execLsrAbsX p op s
  | .lsrAbsY p op => Sys2Proof.Machine.execLsrAbsY p op s
  | .rts p => Sys2Proof.Machine.execRts p s
  | .adcIndZpX p op => Sys2Proof.Machine.execAdcIndZpX p op s
  | .ldaIndAbsX p op => Sys2Proof.Machine.execLdaIndAbsX p op s
  | .stzZp p op => Sys2Proof.Machine.execStzZp p op s
  | .adcZp p op => Sys2Proof.Machine.execAdcZp p op s
  | .rorZp p op => Sys2Proof.Machine.execRorZp p op s
  | .pla p => Sys2Proof.Machine.execPla p s
  | .adcImm p op => Sys2Proof.Machine.execAdcImm p op s
  | .rorA p => Sys2Proof.Machine.execRorA p s
  | .jmpIndAbs p op => Sys2Proof.Machine.execJmpIndAbs p op s
  | .adcAbs p op => Sys2Proof.Machine.execAdcAbs p op s
  | .rorAbs p op => Sys2Proof.Machine.execRorAbs p op s
  | .bvs p op => Sys2Proof.Machine.execBvs p op s
  | .adcIndZpY p op => Sys2Proof.Machine.execAdcIndZpY p op s
  | .adcIndZp p op => Sys2Proof.Machine.execAdcIndZp p op s
  | .stzZpX p op => Sys2Proof.Machine.execStzZpX p op s
  | .adcZpX p op => Sys2Proof.Machine.execAdcZpX p op s
  | .rorZpX p op => Sys2Proof.Machine.execRorZpX p op s
  | .sei p => Sys2Proof.Machine.execSei p s
  | .adcAbsY p op => Sys2Proof.Machine.execAdcAbsY p op s
  | .ply p => Sys2Proof.Machine.execPly p s
  | .jmpIndAbsX p op => Sys2Proof.Machine.execJmpIndAbsX p op s
  | .adcAbsX p op => Sys2Proof.Machine.execAdcAbsX p op s
  | .rorAbsX p op => Sys2Proof.Machine.execRorAbsX p op s
  | .rorAbsY p op => Sys2Proof.Machine.execRorAbsY p op s
  | .bra p op => Sys2Proof.Machine.execBra p op s
  | .staIndZpX p op => Sys2Proof.Machine.execStaIndZpX p op s
  | .bsrRel p op => Sys2Proof.Machine.execBsrRel p op s
  | .styZp p op => Sys2Proof.Machine.execStyZp p op s
  | .staZp p op => Sys2Proof.Machine.execStaZp p op s
  | .stxZp p op => Sys2Proof.Machine.execStxZp p op s
  | .dey p => Sys2Proof.Machine.execDey p s
  | .bitImm p op => Sys2Proof.Machine.execBitImm p op s
  | .txa p => Sys2Proof.Machine.execTxa p s
  | .styAbs p op => Sys2Proof.Machine.execStyAbs p op s
  | .staAbs p op => Sys2Proof.Machine.execStaAbs p op s
  | .stxAbs p op => Sys2Proof.Machine.execStxAbs p op s
  | .bcc p op => Sys2Proof.Machine.execBcc p op s
  | .staIndZpY p op => Sys2Proof.Machine.execStaIndZpY p op s
  | .staIndZp p op => Sys2Proof.Machine.execStaIndZp p op s
  | .styZpX p op => Sys2Proof.Machine.execStyZpX p op s
  | .staZpX p op => Sys2Proof.Machine.execStaZpX p op s
  | .stxZpY p op => Sys2Proof.Machine.execStxZpY p op s
  | .tya p => Sys2Proof.Machine.execTya p s
  | .staAbsY p op => Sys2Proof.Machine.execStaAbsY p op s
  | .txs p => Sys2Proof.Machine.execTxs p s
  | .stzAbs p op => Sys2Proof.Machine.execStzAbs p op s
  | .staAbsX p op => Sys2Proof.Machine.execStaAbsX p op s
  | .stzAbsX p op => Sys2Proof.Machine.execStzAbsX p op s
  | .styAbsX p op => Sys2Proof.Machine.execStyAbsX p op s
  | .ldyImm p op => Sys2Proof.Machine.execLdyImm p op s
  | .ldaIndZpX p op => Sys2Proof.Machine.execLdaIndZpX p op s
  | .ldxImm p op => Sys2Proof.Machine.execLdxImm p op s
  | .ldyZp p op => Sys2Proof.Machine.execLdyZp p op s
  | .ldaZp p op => Sys2Proof.Machine.execLdaZp p op s
  | .ldxZp p op => Sys2Proof.Machine.execLdxZp p op s
  | .tay p => Sys2Proof.Machine.execTay p s
  | .ldaImm p op => Sys2Proof.Machine.execLdaImm p op s
  | .tax p => Sys2Proof.Machine.execTax p s
  | .ldyAbs p op => Sys2Proof.Machine.execLdyAbs p op s
  | .ldaAbs p op => Sys2Proof.Machine.execLdaAbs p op s
  | .ldxAbs p op => Sys2Proof.Machine.execLdxAbs p op s
  | .bcs p op => Sys2Proof.Machine.execBcs p op s
  | .ldaIndZpY p op => Sys2Proof.Machine.execLdaIndZpY p op s
  | .ldaIndZp p op => Sys2Proof.Machine.execLdaIndZp p op s
  | .ldyZpX p op => Sys2Proof.Machine.execLdyZpX p op s
  | .ldaZpX p op => Sys2Proof.Machine.execLdaZpX p op s
  | .ldxZpY p op => Sys2Proof.Machine.execLdxZpY p op s
  | .clv p => Sys2Proof.Machine.execClv p s
  | .ldaAbsY p op => Sys2Proof.Machine.execLdaAbsY p op s
  | .tsx p => Sys2Proof.Machine.execTsx p s
  | .ldyAbsX p op => Sys2Proof.Machine.execLdyAbsX p op s
  | .ldaAbsX p op => Sys2Proof.Machine.execLdaAbsX p op s
  | .ldxAbsY p op => Sys2Proof.Machine.execLdxAbsY p op s
  | .stxAbsY p op => Sys2Proof.Machine.execStxAbsY p op s
  | .cpyImm p op => Sys2Proof.Machine.execCpyImm p op s
  | .cmpIndZpX p op => Sys2Proof.Machine.execCmpIndZpX p op s
  | .staIndAbsY p op => Sys2Proof.Machine.execStaIndAbsY p op s
  | .cpyZp p op => Sys2Proof.Machine.execCpyZp p op s
  | .cmpZp p op => Sys2Proof.Machine.execCmpZp p op s
  | .decZp p op => Sys2Proof.Machine.execDecZp p op s
  | .iny p => Sys2Proof.Machine.execIny p s
  | .cmpImm p op => Sys2Proof.Machine.execCmpImm p op s
  | .dex p => Sys2Proof.Machine.execDex p s
  | .cpyAbs p op => Sys2Proof.Machine.execCpyAbs p op s
  | .cmpAbs p op => Sys2Proof.Machine.execCmpAbs p op s
  | .decAbs p op => Sys2Proof.Machine.execDecAbs p op s
  | .bne p op => Sys2Proof.Machine.execBne p op s
  | .cmpIndZpY p op => Sys2Proof.Machine.execCmpIndZpY p op s
  | .cmpIndZp p op => Sys2Proof.Machine.execCmpIndZp p op s
  | .cmpZpX p op => Sys2Proof.Machine.execCmpZpX p op s
  | .decZpX p op => Sys2Proof.Machine.execDecZpX p op s
  | .cld p => Sys2Proof.Machine.execCld p s
  | .cmpAbsY p op => Sys2Proof.Machine.execCmpAbsY p op s
  | .phx p => Sys2Proof.Machine.execPhx p s
  | .jsrIndAbs p op => Sys2Proof.Machine.execJsrIndAbs p op s
  | .cmpAbsX p op => Sys2Proof.Machine.execCmpAbsX p op s
  | .decAbsX p op => Sys2Proof.Machine.execDecAbsX p op s
  | .decAbsY p op => Sys2Proof.Machine.execDecAbsY p op s
  | .cpxImm p op => Sys2Proof.Machine.execCpxImm p op s
  | .sbcIndZpX p op => Sys2Proof.Machine.execSbcIndZpX p op s
  | .staIndAbsX p op => Sys2Proof.Machine.execStaIndAbsX p op s
  | .cpxZp p op => Sys2Proof.Machine.execCpxZp p op s
  | .sbcZp p op => Sys2Proof.Machine.execSbcZp p op s
  | .incZp p op => Sys2Proof.Machine.execIncZp p op s
  | .inx p => Sys2Proof.Machine.execInx p s
  | .sbcImm p op => Sys2Proof.Machine.execSbcImm p op s
  | .nop p => Sys2Proof.Machine.execNop p s
  | .cpxAbs p op => Sys2Proof.Machine.execCpxAbs p op s
  | .sbcAbs p op => Sys2Proof.Machine.execSbcAbs p op s
  | .incAbs p op => Sys2Proof.Machine.execIncAbs p op s
  | .beq p op => Sys2Proof.Machine.execBeq p op s
  | .sbcIndZpY p op => Sys2Proof.Machine.execSbcIndZpY p op s
  | .sbcIndZp p op => Sys2Proof.Machine.execSbcIndZp p op s
  | .trp p op => Sys2Proof.Machine.execTrp p op s
  | .sbcZpX p op => Sys2Proof.Machine.execSbcZpX p op s
  | .incZpX p op => Sys2Proof.Machine.execIncZpX p op s
  | .sed p => Sys2Proof.Machine.execSed p s
  | .sbcAbsY p op => Sys2Proof.Machine.execSbcAbsY p op s
  | .plx p => Sys2Proof.Machine.execPlx p s
  | .jsrIndAbsX p op => Sys2Proof.Machine.execJsrIndAbsX p op s
  | .sbcAbsX p op => Sys2Proof.Machine.execSbcAbsX p op s
  | .incAbsX p op => Sys2Proof.Machine.execIncAbsX p op s
  | .incAbsY p op => Sys2Proof.Machine.execIncAbsY p op s
  -- std page, duplicate opcodes
  | .oraQindZpX p op => Sys2Proof.Machine.execOraQindZpX p op s
  | .jmpQindAbs p op => Sys2Proof.Machine.execJmpQindAbs p op s
  | .oraQindZpY p op => Sys2Proof.Machine.execOraQindZpY p op s
  | .oraQindZp p op => Sys2Proof.Machine.execOraQindZp p op s
  | .andQindZpX p op => Sys2Proof.Machine.execAndQindZpX p op s
  | .jmpQindAbsX p op => Sys2Proof.Machine.execJmpQindAbsX p op s
  | .andQindZpY p op => Sys2Proof.Machine.execAndQindZpY p op s
  | .andQindZp p op => Sys2Proof.Machine.execAndQindZp p op s
  | .eorQindZpX p op => Sys2Proof.Machine.execEorQindZpX p op s
  | .ldaQindAbsY p op => Sys2Proof.Machine.execLdaQindAbsY p op s
  | .eorQindZpY p op => Sys2Proof.Machine.execEorQindZpY p op s
  | .eorQindZp p op => Sys2Proof.Machine.execEorQindZp p op s
  | .adcQindZpX p op => Sys2Proof.Machine.execAdcQindZpX p op s
  | .ldaQindAbsX p op => Sys2Proof.Machine.execLdaQindAbsX p op s
  | .adcQindZpY p op => Sys2Proof.Machine.execAdcQindZpY p op s
  | .adcQindZp p op => Sys2Proof.Machine.execAdcQindZp p op s
  | .staQindZpX p op => Sys2Proof.Machine.execStaQindZpX p op s
  | .jsrQindAbs p op => Sys2Proof.Machine.execJsrQindAbs p op s
  | .staQindZpY p op => Sys2Proof.Machine.execStaQindZpY p op s
  | .staQindZp p op => Sys2Proof.Machine.execStaQindZp p op s
  | .ldaQindZpX p op => Sys2Proof.Machine.execLdaQindZpX p op s
  | .jsrQindAbsX p op => Sys2Proof.Machine.execJsrQindAbsX p op s
  | .ldaQindZpY p op => Sys2Proof.Machine.execLdaQindZpY p op s
  | .ldaQindZp p op => Sys2Proof.Machine.execLdaQindZp p op s
  | .cmpQindZpX p op => Sys2Proof.Machine.execCmpQindZpX p op s
  | .staQindAbsY p op => Sys2Proof.Machine.execStaQindAbsY p op s
  | .cmpQindZpY p op => Sys2Proof.Machine.execCmpQindZpY p op s
  | .cmpQindZp p op => Sys2Proof.Machine.execCmpQindZp p op s
  | .sbcQindZpX p op => Sys2Proof.Machine.execSbcQindZpX p op s
  | .staQindAbsX p op => Sys2Proof.Machine.execStaQindAbsX p op s
  | .sbcQindZpY p op => Sys2Proof.Machine.execSbcQindZpY p op s
  | .sbcQindZp p op => Sys2Proof.Machine.execSbcQindZp p op s
  -- ext page
  | .leaZpY p op => Sys2Proof.Machine.execLeaZpY p op s
  | .mvn p => Sys2Proof.Machine.execMvn p s
  | .asrZp p op => Sys2Proof.Machine.execAsrZp p op s
  | .phe p => Sys2Proof.Machine.execPhe p s
  | .oraE p => Sys2Proof.Machine.execOraE p s
  | .asrA p => Sys2Proof.Machine.execAsrA p s
  | .tsbE p => Sys2Proof.Machine.execTsbE p s
  | .aslE p => Sys2Proof.Machine.execAslE p s
  | .asrAbs p op => Sys2Proof.Machine.execAsrAbs p op s
  | .mvp p => Sys2Proof.Machine.execMvp p s
  | .asrZpX p op => Sys2Proof.Machine.execAsrZpX p op s
  | .trbE p => Sys2Proof.Machine.execTrbE p s
  | .asrE p => Sys2Proof.Machine.execAsrE p s
  | .asrAbsX p op => Sys2Proof.Machine.execAsrAbsX p op s
  | .asrAbsY p op => Sys2Proof.Machine.execAsrAbsY p op s
  | .jsrE p => Sys2Proof.Machine.execJsrE p s
  | .peaZpY p op => Sys2Proof.Machine.execPeaZpY p op s
  | .fil p => Sys2Proof.Machine.execFil p s
  | .adeImm p op => Sys2Proof.Machine.execAdeImm p op s
  | .rdlZp p op => Sys2Proof.Machine.execRdlZp p op s
  | .ple p => Sys2Proof.Machine.execPle p s
  | .andE p => Sys2Proof.Machine.execAndE p s
  | .rdlA p => Sys2Proof.Machine.execRdlA p s
  | .rolE p => Sys2Proof.Machine.execRolE p s
  | .rdlAbs p op => Sys2Proof.Machine.execRdlAbs p op s
  | .bitA p => Sys2Proof.Machine.execBitA p s
  | .adeA p => Sys2Proof.Machine.execAdeA p s
  | .rdlZpX p op => Sys2Proof.Machine.execRdlZpX p op s
  | .ldeImm p op => Sys2Proof.Machine.execLdeImm p op s
  | .rdlE p => Sys2Proof.Machine.execRdlE p s
  | .rdlAbsX p op => Sys2Proof.Machine.execRdlAbsX p op s
  | .rdlAbsY p op => Sys2Proof.Machine.execRdlAbsY p op s
  | .leaIndAbsY p op => Sys2Proof.Machine.execLeaIndAbsY p op s
  | .leaRelWide p op => Sys2Proof.Machine.execLeaRelWide p op s
  | .adsImm p op => Sys2Proof.Machine.execAdsImm p op s
  | .phb p => Sys2Proof.Machine.execPhb p s
  | .eorE p => Sys2Proof.Machine.execEorE p s
  | .lsrE p => Sys2Proof.Machine.execLsrE p s
  | .peaRelWide p op => Sys2Proof.Machine.execPeaRelWide p op s
  | .adsA p => Sys2Proof.Machine.execAdsA p s
  | .prb p => Sys2Proof.Machine.execPrb p s
  | .ldbImm p op => Sys2Proof.Machine.execLdbImm p op s
  | .leaIndAbsX p op => Sys2Proof.Machine.execLeaIndAbsX p op s
  | .rmb p => Sys2Proof.Machine.execRmb p s
  | .adbImm p op => Sys2Proof.Machine.execAdbImm p op s
  | .rdrZp p op => Sys2Proof.Machine.execRdrZp p op s
  | .plb p => Sys2Proof.Machine.execPlb p s
  | .adcE p => Sys2Proof.Machine.execAdcE p s
  | .rdrA p => Sys2Proof.Machine.execRdrA p s
  | .rorE p => Sys2Proof.Machine.execRorE p s
  | .rdrAbs p op => Sys2Proof.Machine.execRdrAbs p op s
  | .wmb p => Sys2Proof.Machine.execWmb p s
  | .adbA p => Sys2Proof.Machine.execAdbA p s
  | .rdrZpX p op => Sys2Proof.Machine.execRdrZpX p op s
  | .rdrE p => Sys2Proof.Machine.execRdrE p s
  | .rdrAbsX p op => Sys2Proof.Machine.execRdrAbsX p op s
  | .rdrAbsY p op => Sys2Proof.Machine.execRdrAbsY p op s
  | .leaRel p op => Sys2Proof.Machine.execLeaRel p op s
  | .peaIndZpX p op => Sys2Proof.Machine.execPeaIndZpX p op s
  | .peaRel p op => Sys2Proof.Machine.execPeaRel p op s
  | .scaE p => Sys2Proof.Machine.execScaE p s
  | .peaZp p op => Sys2Proof.Machine.execPeaZp p op s
  | .leaZp p op => Sys2Proof.Machine.execLeaZp p op s
  | .tae p => Sys2Proof.Machine.execTae p s
  | .bitE p => Sys2Proof.Machine.execBitE p s
  | .tys p => Sys2Proof.Machine.execTys p s
  | .styE p => Sys2Proof.Machine.execStyE p s
  | .staE p => Sys2Proof.Machine.execStaE p s
  | .stxE p => Sys2Proof.Machine.execStxE p s
  | .peaIndZpY p op => Sys2Proof.Machine.execPeaIndZpY p op s
  | .peaIndZp p op => Sys2Proof.Machine.execPeaIndZp p op s
  | .llaE p => Sys2Proof.Machine.execLlaE p s
  | .peaZpX p op => Sys2Proof.Machine.execPeaZpX p op s
  | .leaZpX p op => Sys2Proof.Machine.execLeaZpX p op s
  | .tea p => Sys2Proof.Machine.execTea p s
  | .peaAbsY p op => Sys2Proof.Machine.execPeaAbsY p op s
  | .sxy p => Sys2Proof.Machine.execSxy p s
  | .stzE p => Sys2Proof.Machine.execStzE p s
  | .stzAbsY p op => Sys2Proof.Machine.execStzAbsY p op s
  | .ldyE p => Sys2Proof.Machine.execLdyE p s
  | .leaIndZpX p op => Sys2Proof.Machine.execLeaIndZpX p op s
  | .ldxE p => Sys2Proof.Machine.execLdxE p s
  | .invA p => Sys2Proof.Machine.execInvA p s
  | .sbeImm p op => Sys2Proof.Machine.execSbeImm p op s
  | .ldaE p => Sys2Proof.Machine.execLdaE p s
  | .peaAbs p op => Sys2Proof.Machine.execPeaAbs p op s
  | .leaAbs p op => Sys2Proof.Machine.execLeaAbs p op s
  | .leaIndZpY p op => Sys2Proof.Machine.execLeaIndZpY p op s
  | .leaIndZp p op => Sys2Proof.Machine.execLeaIndZp p op s
  | .bcnA p => Sys2Proof.Machine.execBcnA p s
  | .sbeA p => Sys2Proof.Machine.execSbeA p s
  | .seb p => Sys2Proof.Machine.execSeb p s
  | .leaAbsY p op => Sys2Proof.Machine.execLeaAbsY p op s
  | .sax p => Sys2Proof.Machine.execSax p s
  | .bcnE p => Sys2Proof.Machine.execBcnE p s
  | .peaAbsX p op => Sys2Proof.Machine.execPeaAbsX p op s
  | .leaAbsX p op => Sys2Proof.Machine.execLeaAbsX p op s
  | .cpyE p => Sys2Proof.Machine.execCpyE p s
  | .peaIndAbsY p op => Sys2Proof.Machine.execPeaIndAbsY p op s
  | .extA p => Sys2Proof.Machine.execExtA p s
  | .sbsImm p op => Sys2Proof.Machine.execSbsImm p op s
  | .tpa p => Sys2Proof.Machine.execTpa p s
  | .cmpE p => Sys2Proof.Machine.execCmpE p s
  | .tsy p => Sys2Proof.Machine.execTsy p s
  | .decE p => Sys2Proof.Machine.execDecE p s
  | .swpA p => Sys2Proof.Machine.execSwpA p s
  | .sbsA p => Sys2Proof.Machine.execSbsA p s
  | .sae p => Sys2Proof.Machine.execSae p s
  | .say p => Sys2Proof.Machine.execSay p s
  | .cpxE p => Sys2Proof.Machine.execCpxE p s
  | .peaIndAbsX p op => Sys2Proof.Machine.execPeaIndAbsX p op s
  | .rmbE p => Sys2Proof.Machine.execRmbE p s
  | .sbbImm p op => Sys2Proof.Machine.execSbbImm p op s
  | .tab p => Sys2Proof.Machine.execTab p s
  | .sbcE p => Sys2Proof.Machine.execSbcE p s
  | .teb p => Sys2Proof.Machine.execTeb p s
  | .incE p => Sys2Proof.Machine.execIncE p s
  | .wmbE p => Sys2Proof.Machine.execWmbE p s
  | .sbbA p => Sys2Proof.Machine.execSbbA p s
  | .tba p => Sys2Proof.Machine.execTba p s
  | .tbe p => Sys2Proof.Machine.execTbe p s
  -- sys page
  | .lcr p op => Sys2Proof.Machine.execLcr p op s
  | .senv p op => Sys2Proof.Machine.execSenv p op s
  | .senvE p op => Sys2Proof.Machine.execSenvE p op s
  | .scr p op => Sys2Proof.Machine.execScr p op s
  | .bcr p op => Sys2Proof.Machine.execBcr p op s
  | .smmu p => Sys2Proof.Machine.execSmmu p s
  | .jpuAbs p op => Sys2Proof.Machine.execJpuAbs p op s
  | .cleim p => Sys2Proof.Machine.execCleim p s
  | .rtu p => Sys2Proof.Machine.execRtu p s
  | .jpuIndAbs p op => Sys2Proof.Machine.execJpuIndAbs p op s
  | .filu p => Sys2Proof.Machine.execFilu p s
  | .mvnfu p => Sys2Proof.Machine.execMvnfu p s
  | .mvpfu p => Sys2Proof.Machine.execMvpfu p s
  | .wai p => Sys2Proof.Machine.execWai p s
  | .mvntu p => Sys2Proof.Machine.execMvntu p s
  | .stp p => Sys2Proof.Machine.execStp p s
  | .mvptu p => Sys2Proof.Machine.execMvptu p s
  -- quick page
  | .inyQuick p cnt => Sys2Proof.Machine.execInyQuick p cnt s
  | .deyQuick p cnt => Sys2Proof.Machine.execDeyQuick p cnt s
  | .inxQuick p cnt => Sys2Proof.Machine.execInxQuick p cnt s
  | .dexQuick p cnt => Sys2Proof.Machine.execDexQuick p cnt s
  | .incQuick p cnt => Sys2Proof.Machine.execIncQuick p cnt s
  | .decQuick p cnt => Sys2Proof.Machine.execDecQuick p cnt s
  | .rolQuick p cnt => Sys2Proof.Machine.execRolQuick p cnt s
  | .rorQuick p cnt => Sys2Proof.Machine.execRorQuick p cnt s
  | .aslQuick p cnt => Sys2Proof.Machine.execAslQuick p cnt s
  | .lsrQuick p cnt => Sys2Proof.Machine.execLsrQuick p cnt s
  | .rdlQuick p cnt => Sys2Proof.Machine.execRdlQuick p cnt s
  | .rdrQuick p cnt => Sys2Proof.Machine.execRdrQuick p cnt s
  | .incQuickE p cnt => Sys2Proof.Machine.execIncQuickE p cnt s
  | .decQuickE p cnt => Sys2Proof.Machine.execDecQuickE p cnt s
  | .rolQuickE p cnt => Sys2Proof.Machine.execRolQuickE p cnt s
  | .rorQuickE p cnt => Sys2Proof.Machine.execRorQuickE p cnt s
  | .rdlQuickE p cnt => Sys2Proof.Machine.execRdlQuickE p cnt s
  | .rdrQuickE p cnt => Sys2Proof.Machine.execRdrQuickE p cnt s
  | .aslQuickE p cnt => Sys2Proof.Machine.execAslQuickE p cnt s
  | .lsrQuickE p cnt => Sys2Proof.Machine.execLsrQuickE p cnt s
  | .slxQuick p cnt => Sys2Proof.Machine.execSlxQuick p cnt s
  | .srxQuick p cnt => Sys2Proof.Machine.execSrxQuick p cnt s
  | .slyQuick p cnt => Sys2Proof.Machine.execSlyQuick p cnt s
  | .sryQuick p cnt => Sys2Proof.Machine.execSryQuick p cnt s
  | .asrQuick p cnt => Sys2Proof.Machine.execAsrQuick p cnt s
  | .asrQuickE p cnt => Sys2Proof.Machine.execAsrQuickE p cnt s
  | .incQuickZp p op cnt => Sys2Proof.Machine.execIncQuickZp p op cnt s
  | .decQuickZp p op cnt => Sys2Proof.Machine.execDecQuickZp p op cnt s
  | .rolQuickZp p op cnt => Sys2Proof.Machine.execRolQuickZp p op cnt s
  | .rorQuickZp p op cnt => Sys2Proof.Machine.execRorQuickZp p op cnt s
  | .aslQuickZp p op cnt => Sys2Proof.Machine.execAslQuickZp p op cnt s
  | .lsrQuickZp p op cnt => Sys2Proof.Machine.execLsrQuickZp p op cnt s

end Sys2Proof.Machine
end

