-- ==== Sys2Proof/WellFormed.lean ====
section
/-! DEFINITION. Well-formed instructions: those the encoding of spec/30_encoding.md can write. -/

namespace Sys2Proof

/-- The prefix bytes are ones the row admits (R157, R165). -/
def Instr.prefixOk (i : Instr) : Bool := i.view.row.admits i.view.pfx

/-- The operand fits the operand bytes of the row under these prefixes (R166). -/
def Instr.operandOk (i : Instr) : Bool :=
  decide (i.view.op.toNat < 2 ^ (8 * i.view.row.format.operandBytes i.view.pfx))

/-- An instruction the encoding can write. -/
def Instr.wellFormed (i : Instr) : Bool := i.prefixOk && i.operandOk

end Sys2Proof
end

