-- ==== Sys2Proof/Decode.lean ====
section
/-! DEFINITION. The decoder, total on any bytes and refusing by name (spec/30_encoding.md R150 to R178), and after it the
encoder, written from the same tables. -/

namespace Sys2Proof

open Sys2Proof.Machine (toBytes ofBytes DecodeError)

-- Lean's code generator cannot build a value of a type with more than 244 constructors that carry fields, and Instr has
-- one constructor per row of the table (399); what builds an instruction is therefore marked noncomputable. It is plain
-- structural recursion all the same, and the kernel evaluates it.

/-- What the decoder makes of a row of the table: the instruction, given its prefixes, count field and operand. -/
abbrev Builder := Pfx → BitVec 3 → Word → Instr

/-- The entry with key `k`, if any. -/
def entryAt (k : Nat) : List (Nat × Builder) → Option Builder
  | [] => none
  | (c, b) :: rest => if c = k then some b else entryAt k rest

/-- Standard page, high nibble 0 (R172, with the duplicate opcodes of R174 in columns 3 and 7). -/
noncomputable def stdRow0 : List (Nat × Builder) :=
  [(0x00, fun p _ _ => .brk p),
   (0x01, fun p _ op => .oraIndZpX p op),
   (0x02, fun p _ op => .ldaZpY p op),
   (0x03, fun p _ op => .oraQindZpX p op),
   (0x04, fun p _ op => .tsbZp p op),
   (0x05, fun p _ op => .oraZp p op),
   (0x06, fun p _ op => .aslZp p op),
   (0x07, fun p _ op => .jmpQindAbs p op),
   (0x08, fun p _ _ => .php p),
   (0x09, fun p _ op => .oraImm p op),
   (0x0A, fun p _ _ => .aslA p),
   (0x0C, fun p _ op => .tsbAbs p op),
   (0x0D, fun p _ op => .oraAbs p op),
   (0x0E, fun p _ op => .aslAbs p op)]

/-- Standard page, high nibble 1 (R172, with the duplicate opcodes of R174 in columns 3 and 7). -/
noncomputable def stdRow1 : List (Nat × Builder) :=
  [(0x10, fun p _ op => .bpl p op),
   (0x11, fun p _ op => .oraIndZpY p op),
   (0x12, fun p _ op => .oraIndZp p op),
   (0x13, fun p _ op => .oraQindZpY p op),
   (0x14, fun p _ op => .trbZp p op),
   (0x15, fun p _ op => .oraZpX p op),
   (0x16, fun p _ op => .aslZpX p op),
   (0x17, fun p _ op => .oraQindZp p op),
   (0x18, fun p _ _ => .clc p),
   (0x19, fun p _ op => .oraAbsY p op),
   (0x1A, fun p _ _ => .incA p),
   (0x1C, fun p _ op => .trbAbs p op),
   (0x1D, fun p _ op => .oraAbsX p op),
   (0x1E, fun p _ op => .aslAbsX p op),
   (0x1F, fun p _ op => .aslAbsY p op)]

/-- Standard page, high nibble 2 (R172, with the duplicate opcodes of R174 in columns 3 and 7). -/
noncomputable def stdRow2 : List (Nat × Builder) :=
  [(0x20, fun p _ op => .jsrAbs p op),
   (0x21, fun p _ op => .andIndZpX p op),
   (0x22, fun p _ op => .staZpY p op),
   (0x23, fun p _ op => .andQindZpX p op),
   (0x24, fun p _ op => .bitZp p op),
   (0x25, fun p _ op => .andZp p op),
   (0x26, fun p _ op => .rolZp p op),
   (0x27, fun p _ op => .jmpQindAbsX p op),
   (0x28, fun p _ _ => .plp p),
   (0x29, fun p _ op => .andImm p op),
   (0x2A, fun p _ _ => .rolA p),
   (0x2C, fun p _ op => .bitAbs p op),
   (0x2D, fun p _ op => .andAbs p op),
   (0x2E, fun p _ op => .rolAbs p op)]

/-- Standard page, high nibble 3 (R172, with the duplicate opcodes of R174 in columns 3 and 7). -/
noncomputable def stdRow3 : List (Nat × Builder) :=
  [(0x30, fun p _ op => .bmi p op),
   (0x31, fun p _ op => .andIndZpY p op),
   (0x32, fun p _ op => .andIndZp p op),
   (0x33, fun p _ op => .andQindZpY p op),
   (0x34, fun p _ op => .bitZpX p op),
   (0x35, fun p _ op => .andZpX p op),
   (0x36, fun p _ op => .rolZpX p op),
   (0x37, fun p _ op => .andQindZp p op),
   (0x38, fun p _ _ => .sec p),
   (0x39, fun p _ op => .andAbsY p op),
   (0x3A, fun p _ _ => .decA p),
   (0x3C, fun p _ op => .bitAbsX p op),
   (0x3D, fun p _ op => .andAbsX p op),
   (0x3E, fun p _ op => .rolAbsX p op),
   (0x3F, fun p _ op => .rolAbsY p op)]

/-- Standard page, high nibble 4 (R172, with the duplicate opcodes of R174 in columns 3 and 7). -/
noncomputable def stdRow4 : List (Nat × Builder) :=
  [(0x40, fun p _ _ => .rti p),
   (0x41, fun p _ op => .eorIndZpX p op),
   (0x42, fun p _ op => .ldaIndAbsY p op),
   (0x43, fun p _ op => .eorQindZpX p op),
   (0x44, fun p _ op => .bsrRelWide p op),
   (0x45, fun p _ op => .eorZp p op),
   (0x46, fun p _ op => .lsrZp p op),
   (0x47, fun p _ op => .ldaQindAbsY p op),
   (0x48, fun p _ _ => .pha p),
   (0x49, fun p _ op => .eorImm p op),
   (0x4A, fun p _ _ => .lsrA p),
   (0x4C, fun p _ op => .jmpAbs p op),
   (0x4D, fun p _ op => .eorAbs p op),
   (0x4E, fun p _ op => .lsrAbs p op)]

/-- Standard page, high nibble 5 (R172, with the duplicate opcodes of R174 in columns 3 and 7). -/
noncomputable def stdRow5 : List (Nat × Builder) :=
  [(0x50, fun p _ op => .bvc p op),
   (0x51, fun p _ op => .eorIndZpY p op),
   (0x52, fun p _ op => .eorIndZp p op),
   (0x53, fun p _ op => .eorQindZpY p op),
   (0x55, fun p _ op => .eorZpX p op),
   (0x56, fun p _ op => .lsrZpX p op),
   (0x57, fun p _ op => .eorQindZp p op),
   (0x58, fun p _ _ => .cli p),
   (0x59, fun p _ op => .eorAbsY p op),
   (0x5A, fun p _ _ => .phy p),
   (0x5D, fun p _ op => .eorAbsX p op),
   (0x5E, fun p _ op => .lsrAbsX p op),
   (0x5F, fun p _ op => .lsrAbsY p op)]

/-- Standard page, high nibble 6 (R172, with the duplicate opcodes of R174 in columns 3 and 7). -/
noncomputable def stdRow6 : List (Nat × Builder) :=
  [(0x60, fun p _ _ => .rts p),
   (0x61, fun p _ op => .adcIndZpX p op),
   (0x62, fun p _ op => .ldaIndAbsX p op),
   (0x63, fun p _ op => .adcQindZpX p op),
   (0x64, fun p _ op => .stzZp p op),
   (0x65, fun p _ op => .adcZp p op),
   (0x66, fun p _ op => .rorZp p op),
   (0x67, fun p _ op => .ldaQindAbsX p op),
   (0x68, fun p _ _ => .pla p),
   (0x69, fun p _ op => .adcImm p op),
   (0x6A, fun p _ _ => .rorA p),
   (0x6C, fun p _ op => .jmpIndAbs p op),
   (0x6D, fun p _ op => .adcAbs p op),
   (0x6E, fun p _ op => .rorAbs p op)]

/-- Standard page, high nibble 7 (R172, with the duplicate opcodes of R174 in columns 3 and 7). -/
noncomputable def stdRow7 : List (Nat × Builder) :=
  [(0x70, fun p _ op => .bvs p op),
   (0x71, fun p _ op => .adcIndZpY p op),
   (0x72, fun p _ op => .adcIndZp p op),
   (0x73, fun p _ op => .adcQindZpY p op),
   (0x74, fun p _ op => .stzZpX p op),
   (0x75, fun p _ op => .adcZpX p op),
   (0x76, fun p _ op => .rorZpX p op),
   (0x77, fun p _ op => .adcQindZp p op),
   (0x78, fun p _ _ => .sei p),
   (0x79, fun p _ op => .adcAbsY p op),
   (0x7A, fun p _ _ => .ply p),
   (0x7C, fun p _ op => .jmpIndAbsX p op),
   (0x7D, fun p _ op => .adcAbsX p op),
   (0x7E, fun p _ op => .rorAbsX p op),
   (0x7F, fun p _ op => .rorAbsY p op)]

/-- Standard page, high nibble 8 (R172, with the duplicate opcodes of R174 in columns 3 and 7). -/
noncomputable def stdRow8 : List (Nat × Builder) :=
  [(0x80, fun p _ op => .bra p op),
   (0x81, fun p _ op => .staIndZpX p op),
   (0x82, fun p _ op => .bsrRel p op),
   (0x83, fun p _ op => .staQindZpX p op),
   (0x84, fun p _ op => .styZp p op),
   (0x85, fun p _ op => .staZp p op),
   (0x86, fun p _ op => .stxZp p op),
   (0x87, fun p _ op => .jsrQindAbs p op),
   (0x88, fun p _ _ => .dey p),
   (0x89, fun p _ op => .bitImm p op),
   (0x8A, fun p _ _ => .txa p),
   (0x8C, fun p _ op => .styAbs p op),
   (0x8D, fun p _ op => .staAbs p op),
   (0x8E, fun p _ op => .stxAbs p op)]

/-- Standard page, high nibble 9 (R172, with the duplicate opcodes of R174 in columns 3 and 7). -/
noncomputable def stdRow9 : List (Nat × Builder) :=
  [(0x90, fun p _ op => .bcc p op),
   (0x91, fun p _ op => .staIndZpY p op),
   (0x92, fun p _ op => .staIndZp p op),
   (0x93, fun p _ op => .staQindZpY p op),
   (0x94, fun p _ op => .styZpX p op),
   (0x95, fun p _ op => .staZpX p op),
   (0x96, fun p _ op => .stxZpY p op),
   (0x97, fun p _ op => .staQindZp p op),
   (0x98, fun p _ _ => .tya p),
   (0x99, fun p _ op => .staAbsY p op),
   (0x9A, fun p _ _ => .txs p),
   (0x9C, fun p _ op => .stzAbs p op),
   (0x9D, fun p _ op => .staAbsX p op),
   (0x9E, fun p _ op => .stzAbsX p op),
   (0x9F, fun p _ op => .styAbsX p op)]

/-- Standard page, high nibble A (R172, with the duplicate opcodes of R174 in columns 3 and 7). -/
noncomputable def stdRowA : List (Nat × Builder) :=
  [(0xA0, fun p _ op => .ldyImm p op),
   (0xA1, fun p _ op => .ldaIndZpX p op),
   (0xA2, fun p _ op => .ldxImm p op),
   (0xA3, fun p _ op => .ldaQindZpX p op),
   (0xA4, fun p _ op => .ldyZp p op),
   (0xA5, fun p _ op => .ldaZp p op),
   (0xA6, fun p _ op => .ldxZp p op),
   (0xA7, fun p _ op => .jsrQindAbsX p op),
   (0xA8, fun p _ _ => .tay p),
   (0xA9, fun p _ op => .ldaImm p op),
   (0xAA, fun p _ _ => .tax p),
   (0xAC, fun p _ op => .ldyAbs p op),
   (0xAD, fun p _ op => .ldaAbs p op),
   (0xAE, fun p _ op => .ldxAbs p op)]

/-- Standard page, high nibble B (R172, with the duplicate opcodes of R174 in columns 3 and 7). -/
noncomputable def stdRowB : List (Nat × Builder) :=
  [(0xB0, fun p _ op => .bcs p op),
   (0xB1, fun p _ op => .ldaIndZpY p op),
   (0xB2, fun p _ op => .ldaIndZp p op),
   (0xB3, fun p _ op => .ldaQindZpY p op),
   (0xB4, fun p _ op => .ldyZpX p op),
   (0xB5, fun p _ op => .ldaZpX p op),
   (0xB6, fun p _ op => .ldxZpY p op),
   (0xB7, fun p _ op => .ldaQindZp p op),
   (0xB8, fun p _ _ => .clv p),
   (0xB9, fun p _ op => .ldaAbsY p op),
   (0xBA, fun p _ _ => .tsx p),
   (0xBC, fun p _ op => .ldyAbsX p op),
   (0xBD, fun p _ op => .ldaAbsX p op),
   (0xBE, fun p _ op => .ldxAbsY p op),
   (0xBF, fun p _ op => .stxAbsY p op)]

/-- Standard page, high nibble C (R172, with the duplicate opcodes of R174 in columns 3 and 7). -/
noncomputable def stdRowC : List (Nat × Builder) :=
  [(0xC0, fun p _ op => .cpyImm p op),
   (0xC1, fun p _ op => .cmpIndZpX p op),
   (0xC2, fun p _ op => .staIndAbsY p op),
   (0xC3, fun p _ op => .cmpQindZpX p op),
   (0xC4, fun p _ op => .cpyZp p op),
   (0xC5, fun p _ op => .cmpZp p op),
   (0xC6, fun p _ op => .decZp p op),
   (0xC7, fun p _ op => .staQindAbsY p op),
   (0xC8, fun p _ _ => .iny p),
   (0xC9, fun p _ op => .cmpImm p op),
   (0xCA, fun p _ _ => .dex p),
   (0xCC, fun p _ op => .cpyAbs p op),
   (0xCD, fun p _ op => .cmpAbs p op),
   (0xCE, fun p _ op => .decAbs p op)]

/-- Standard page, high nibble D (R172, with the duplicate opcodes of R174 in columns 3 and 7). -/
noncomputable def stdRowD : List (Nat × Builder) :=
  [(0xD0, fun p _ op => .bne p op),
   (0xD1, fun p _ op => .cmpIndZpY p op),
   (0xD2, fun p _ op => .cmpIndZp p op),
   (0xD3, fun p _ op => .cmpQindZpY p op),
   (0xD5, fun p _ op => .cmpZpX p op),
   (0xD6, fun p _ op => .decZpX p op),
   (0xD7, fun p _ op => .cmpQindZp p op),
   (0xD8, fun p _ _ => .cld p),
   (0xD9, fun p _ op => .cmpAbsY p op),
   (0xDA, fun p _ _ => .phx p),
   (0xDC, fun p _ op => .jsrIndAbs p op),
   (0xDD, fun p _ op => .cmpAbsX p op),
   (0xDE, fun p _ op => .decAbsX p op),
   (0xDF, fun p _ op => .decAbsY p op)]

/-- Standard page, high nibble E (R172, with the duplicate opcodes of R174 in columns 3 and 7). -/
noncomputable def stdRowE : List (Nat × Builder) :=
  [(0xE0, fun p _ op => .cpxImm p op),
   (0xE1, fun p _ op => .sbcIndZpX p op),
   (0xE2, fun p _ op => .staIndAbsX p op),
   (0xE3, fun p _ op => .sbcQindZpX p op),
   (0xE4, fun p _ op => .cpxZp p op),
   (0xE5, fun p _ op => .sbcZp p op),
   (0xE6, fun p _ op => .incZp p op),
   (0xE7, fun p _ op => .staQindAbsX p op),
   (0xE8, fun p _ _ => .inx p),
   (0xE9, fun p _ op => .sbcImm p op),
   (0xEA, fun p _ _ => .nop p),
   (0xEC, fun p _ op => .cpxAbs p op),
   (0xED, fun p _ op => .sbcAbs p op),
   (0xEE, fun p _ op => .incAbs p op)]

/-- Standard page, high nibble F (R172, with the duplicate opcodes of R174 in columns 3 and 7). -/
noncomputable def stdRowF : List (Nat × Builder) :=
  [(0xF0, fun p _ op => .beq p op),
   (0xF1, fun p _ op => .sbcIndZpY p op),
   (0xF2, fun p _ op => .sbcIndZp p op),
   (0xF3, fun p _ op => .sbcQindZpY p op),
   (0xF4, fun p _ op => .trp p op),
   (0xF5, fun p _ op => .sbcZpX p op),
   (0xF6, fun p _ op => .incZpX p op),
   (0xF7, fun p _ op => .sbcQindZp p op),
   (0xF8, fun p _ _ => .sed p),
   (0xF9, fun p _ op => .sbcAbsY p op),
   (0xFA, fun p _ _ => .plx p),
   (0xFC, fun p _ op => .jsrIndAbsX p op),
   (0xFD, fun p _ op => .sbcAbsX p op),
   (0xFE, fun p _ op => .incAbsX p op),
   (0xFF, fun p _ op => .incAbsY p op)]

/-- The std page by high nibble. -/
noncomputable def stdTable (code : Nat) : List (Nat × Builder) := match code / 16 with
  | 0 => stdRow0
  | 1 => stdRow1
  | 2 => stdRow2
  | 3 => stdRow3
  | 4 => stdRow4
  | 5 => stdRow5
  | 6 => stdRow6
  | 7 => stdRow7
  | 8 => stdRow8
  | 9 => stdRow9
  | 10 => stdRowA
  | 11 => stdRowB
  | 12 => stdRowC
  | 13 => stdRowD
  | 14 => stdRowE
  | _ => stdRowF

/-- EXT page, high nibble 0 (R176). -/
noncomputable def extRow0 : List (Nat × Builder) :=
  [(0x02, fun p _ op => .leaZpY p op),
   (0x04, fun p _ _ => .mvn p),
   (0x06, fun p _ op => .asrZp p op),
   (0x08, fun p _ _ => .phe p),
   (0x09, fun p _ _ => .oraE p),
   (0x0A, fun p _ _ => .asrA p),
   (0x0C, fun p _ _ => .tsbE p),
   (0x0D, fun p _ _ => .aslE p),
   (0x0E, fun p _ op => .asrAbs p op)]

/-- EXT page, high nibble 1 (R176). -/
noncomputable def extRow1 : List (Nat × Builder) :=
  [(0x14, fun p _ _ => .mvp p),
   (0x16, fun p _ op => .asrZpX p op),
   (0x1C, fun p _ _ => .trbE p),
   (0x1D, fun p _ _ => .asrE p),
   (0x1E, fun p _ op => .asrAbsX p op),
   (0x1F, fun p _ op => .asrAbsY p op)]

/-- EXT page, high nibble 2 (R176). -/
noncomputable def extRow2 : List (Nat × Builder) :=
  [(0x20, fun p _ _ => .jsrE p),
   (0x22, fun p _ op => .peaZpY p op),
   (0x24, fun p _ _ => .fil p),
   (0x25, fun p _ op => .adeImm p op),
   (0x26, fun p _ op => .rdlZp p op),
   (0x28, fun p _ _ => .ple p),
   (0x29, fun p _ _ => .andE p),
   (0x2A, fun p _ _ => .rdlA p),
   (0x2D, fun p _ _ => .rolE p),
   (0x2E, fun p _ op => .rdlAbs p op)]

/-- EXT page, high nibble 3 (R176). -/
noncomputable def extRow3 : List (Nat × Builder) :=
  [(0x34, fun p _ _ => .bitA p),
   (0x35, fun p _ _ => .adeA p),
   (0x36, fun p _ op => .rdlZpX p op),
   (0x39, fun p _ op => .ldeImm p op),
   (0x3D, fun p _ _ => .rdlE p),
   (0x3E, fun p _ op => .rdlAbsX p op),
   (0x3F, fun p _ op => .rdlAbsY p op)]

/-- EXT page, high nibble 4 (R176). -/
noncomputable def extRow4 : List (Nat × Builder) :=
  [(0x42, fun p _ op => .leaIndAbsY p op),
   (0x44, fun p _ op => .leaRelWide p op),
   (0x45, fun p _ op => .adsImm p op),
   (0x48, fun p _ _ => .phb p),
   (0x49, fun p _ _ => .eorE p),
   (0x4D, fun p _ _ => .lsrE p)]

/-- EXT page, high nibble 5 (R176). -/
noncomputable def extRow5 : List (Nat × Builder) :=
  [(0x54, fun p _ op => .peaRelWide p op),
   (0x55, fun p _ _ => .adsA p),
   (0x58, fun p _ _ => .prb p),
   (0x59, fun p _ op => .ldbImm p op)]

/-- EXT page, high nibble 6 (R176). -/
noncomputable def extRow6 : List (Nat × Builder) :=
  [(0x62, fun p _ op => .leaIndAbsX p op),
   (0x64, fun p _ _ => .rmb p),
   (0x65, fun p _ op => .adbImm p op),
   (0x66, fun p _ op => .rdrZp p op),
   (0x68, fun p _ _ => .plb p),
   (0x69, fun p _ _ => .adcE p),
   (0x6A, fun p _ _ => .rdrA p),
   (0x6D, fun p _ _ => .rorE p),
   (0x6E, fun p _ op => .rdrAbs p op)]

/-- EXT page, high nibble 7 (R176). -/
noncomputable def extRow7 : List (Nat × Builder) :=
  [(0x74, fun p _ _ => .wmb p),
   (0x75, fun p _ _ => .adbA p),
   (0x76, fun p _ op => .rdrZpX p op),
   (0x7D, fun p _ _ => .rdrE p),
   (0x7E, fun p _ op => .rdrAbsX p op),
   (0x7F, fun p _ op => .rdrAbsY p op)]

/-- EXT page, high nibble 8 (R176). -/
noncomputable def extRow8 : List (Nat × Builder) :=
  [(0x80, fun p _ op => .leaRel p op),
   (0x81, fun p _ op => .peaIndZpX p op),
   (0x82, fun p _ op => .peaRel p op),
   (0x84, fun p _ _ => .scaE p),
   (0x85, fun p _ op => .peaZp p op),
   (0x86, fun p _ op => .leaZp p op),
   (0x88, fun p _ _ => .tae p),
   (0x89, fun p _ _ => .bitE p),
   (0x8A, fun p _ _ => .tys p),
   (0x8C, fun p _ _ => .styE p),
   (0x8D, fun p _ _ => .staE p),
   (0x8E, fun p _ _ => .stxE p)]

/-- EXT page, high nibble 9 (R176). -/
noncomputable def extRow9 : List (Nat × Builder) :=
  [(0x91, fun p _ op => .peaIndZpY p op),
   (0x92, fun p _ op => .peaIndZp p op),
   (0x94, fun p _ _ => .llaE p),
   (0x95, fun p _ op => .peaZpX p op),
   (0x96, fun p _ op => .leaZpX p op),
   (0x98, fun p _ _ => .tea p),
   (0x99, fun p _ op => .peaAbsY p op),
   (0x9A, fun p _ _ => .sxy p),
   (0x9C, fun p _ _ => .stzE p),
   (0x9E, fun p _ op => .stzAbsY p op)]

/-- EXT page, high nibble A (R176). -/
noncomputable def extRowA : List (Nat × Builder) :=
  [(0xA0, fun p _ _ => .ldyE p),
   (0xA1, fun p _ op => .leaIndZpX p op),
   (0xA2, fun p _ _ => .ldxE p),
   (0xA4, fun p _ _ => .invA p),
   (0xA5, fun p _ op => .sbeImm p op),
   (0xA9, fun p _ _ => .ldaE p),
   (0xAD, fun p _ op => .peaAbs p op),
   (0xAE, fun p _ op => .leaAbs p op)]

/-- EXT page, high nibble B (R176). -/
noncomputable def extRowB : List (Nat × Builder) :=
  [(0xB1, fun p _ op => .leaIndZpY p op),
   (0xB2, fun p _ op => .leaIndZp p op),
   (0xB4, fun p _ _ => .bcnA p),
   (0xB5, fun p _ _ => .sbeA p),
   (0xB8, fun p _ _ => .seb p),
   (0xB9, fun p _ op => .leaAbsY p op),
   (0xBA, fun p _ _ => .sax p),
   (0xBC, fun p _ _ => .bcnE p),
   (0xBD, fun p _ op => .peaAbsX p op),
   (0xBE, fun p _ op => .leaAbsX p op)]

/-- EXT page, high nibble C (R176). -/
noncomputable def extRowC : List (Nat × Builder) :=
  [(0xC0, fun p _ _ => .cpyE p),
   (0xC2, fun p _ op => .peaIndAbsY p op),
   (0xC4, fun p _ _ => .extA p),
   (0xC5, fun p _ op => .sbsImm p op),
   (0xC8, fun p _ _ => .tpa p),
   (0xC9, fun p _ _ => .cmpE p),
   (0xCA, fun p _ _ => .tsy p),
   (0xCD, fun p _ _ => .decE p)]

/-- EXT page, high nibble D (R176). -/
noncomputable def extRowD : List (Nat × Builder) :=
  [(0xD4, fun p _ _ => .swpA p),
   (0xD5, fun p _ _ => .sbsA p),
   (0xD8, fun p _ _ => .sae p),
   (0xDA, fun p _ _ => .say p)]

/-- EXT page, high nibble E (R176). -/
noncomputable def extRowE : List (Nat × Builder) :=
  [(0xE0, fun p _ _ => .cpxE p),
   (0xE2, fun p _ op => .peaIndAbsX p op),
   (0xE4, fun p _ _ => .rmbE p),
   (0xE5, fun p _ op => .sbbImm p op),
   (0xE8, fun p _ _ => .tab p),
   (0xE9, fun p _ _ => .sbcE p),
   (0xEA, fun p _ _ => .teb p),
   (0xED, fun p _ _ => .incE p)]

/-- EXT page, high nibble F (R176). -/
noncomputable def extRowF : List (Nat × Builder) :=
  [(0xF4, fun p _ _ => .wmbE p),
   (0xF5, fun p _ _ => .sbbA p),
   (0xF8, fun p _ _ => .tba p),
   (0xFA, fun p _ _ => .tbe p)]

/-- The ext page by high nibble. -/
noncomputable def extTable (code : Nat) : List (Nat × Builder) := match code / 16 with
  | 0 => extRow0
  | 1 => extRow1
  | 2 => extRow2
  | 3 => extRow3
  | 4 => extRow4
  | 5 => extRow5
  | 6 => extRow6
  | 7 => extRow7
  | 8 => extRow8
  | 9 => extRow9
  | 10 => extRowA
  | 11 => extRowB
  | 12 => extRowC
  | 13 => extRowD
  | 14 => extRowE
  | _ => extRowF

/-- SYS page (R177). -/
noncomputable def sysRows : List (Nat × Builder) :=
  [(0x01, fun p _ op => .lcr p op),
   (0x04, fun p _ op => .senv p op),
   (0x14, fun p _ op => .senvE p op),
   (0x21, fun p _ op => .scr p op),
   (0x41, fun p _ op => .bcr p op),
   (0x44, fun p _ _ => .smmu p),
   (0x4C, fun p _ op => .jpuAbs p op),
   (0x55, fun p _ _ => .cleim p),
   (0x60, fun p _ _ => .rtu p),
   (0x6C, fun p _ op => .jpuIndAbs p op),
   (0x74, fun p _ _ => .filu p),
   (0x94, fun p _ _ => .mvnfu p),
   (0xB4, fun p _ _ => .mvpfu p),
   (0xD1, fun p _ _ => .wai p),
   (0xD4, fun p _ _ => .mvntu p),
   (0xF1, fun p _ _ => .stp p),
   (0xF4, fun p _ _ => .mvptu p)]

/-- QUICK page, direction bit 0 (R175). -/
noncomputable def quickRow0 : List (Nat × Builder) :=
  [(0x00, fun p n _ => .inyQuick p n),
   (0x01, fun p n _ => .inxQuick p n),
   (0x02, fun p n _ => .incQuick p n),
   (0x03, fun p n _ => .rolQuick p n),
   (0x04, fun p n _ => .aslQuick p n),
   (0x05, fun p n _ => .rdlQuick p n),
   (0x06, fun p n _ => .incQuickE p n),
   (0x07, fun p n _ => .rolQuickE p n),
   (0x08, fun p n _ => .rdlQuickE p n),
   (0x09, fun p n _ => .aslQuickE p n),
   (0x0A, fun p n _ => .slxQuick p n),
   (0x0B, fun p n _ => .slyQuick p n),
   (0x0C, fun p n _ => .asrQuick p n),
   (0x0D, fun p n op => .incQuickZp p op n),
   (0x0E, fun p n op => .rolQuickZp p op n),
   (0x0F, fun p n op => .aslQuickZp p op n)]

/-- QUICK page, direction bit 1 (R175). -/
noncomputable def quickRow1 : List (Nat × Builder) :=
  [(0x80, fun p n _ => .deyQuick p n),
   (0x81, fun p n _ => .dexQuick p n),
   (0x82, fun p n _ => .decQuick p n),
   (0x83, fun p n _ => .rorQuick p n),
   (0x84, fun p n _ => .lsrQuick p n),
   (0x85, fun p n _ => .rdrQuick p n),
   (0x86, fun p n _ => .decQuickE p n),
   (0x87, fun p n _ => .rorQuickE p n),
   (0x88, fun p n _ => .rdrQuickE p n),
   (0x89, fun p n _ => .lsrQuickE p n),
   (0x8A, fun p n _ => .srxQuick p n),
   (0x8B, fun p n _ => .sryQuick p n),
   (0x8C, fun p n _ => .asrQuickE p n),
   (0x8D, fun p n op => .decQuickZp p op n),
   (0x8E, fun p n op => .rorQuickZp p op n),
   (0x8F, fun p n op => .lsrQuickZp p op n)]

/-- The instruction of an opcode byte of a page (R172 to R177). On the QUICK page bits 6:4 are the count field (R175). -/
noncomputable def opcodeEntry (page : Page) (code : Byte) : Option Builder := match page with
  | .std => entryAt code.toNat (stdTable code.toNat)
  | .ext => entryAt code.toNat (extTable code.toNat)
  | .sys => entryAt code.toNat sysRows
  | .quick => entryAt (code &&& 0x8F).toNat (if code &&& 0x80 = 0 then quickRow0 else quickRow1)

/-- The count field of a QUICK opcode, bits 6:4 (R175). -/
def countField (code : Byte) : BitVec 3 := code.extractLsb' 4 3

/-- `SYS_MVNFU_AT`: with the other setting MVNFU and MVNTU change places (R177). -/
def sysCode (at_ : MvnfuCode) (page : Page) (code : Byte) : Byte :=
  if page = .sys ∧ at_ = .atD4 ∧ (code = 0x94 ∨ code = 0xD4) then code ^^^ 0x40 else code

/-- A byte with low nibble 3 or 7 (R151). -/
def isPrefix1 (b : Byte) : Bool := (b &&& 0x0B) == 0x03

/-- A byte with low nibble B (R152). -/
def isPrefix2 (b : Byte) : Bool := (b &&& 0x0F) == 0x0B

/-- OF, bits 7:6 of prefix1 (R151, R161). -/
def offsetField (b : Byte) : OffsetReg := match (b >>> 6).toNat with
  | 0 => .none
  | 1 => .pc
  | 2 => .sp
  | _ => .b

/-- RS, bits 5:4 of prefix1 (R151, R160). -/
def sizeField (b : Byte) : Size := match ((b >>> 4) &&& 3).toNat with
  | 0 => .b8
  | 1 => .b16
  | 2 => .b32
  | _ => .b64

/-- LE, bits 6:5 of prefix2 (R152, R162). -/
def extField (b : Byte) : Extension := match ((b >>> 5) &&& 3).toNat with
  | 0 => .none
  | 1 => .sign
  | 2 => .zero
  | _ => .ones

/-- prefix1: `OF1 OF0 RS1 RS0 0 AM 1 1` (R151). -/
def readPrefix1 (b : Byte) : Prefix1 := { offset := offsetField b, size := sizeField b, am := b.getLsbD 2 }

/-- prefix2: `UM LE1 LE0 NF 1 0 1 1` (R152). -/
def readPrefix2 (b : Byte) : Prefix2 := { um := b.getLsbD 7, ext := extField b, nf := b.getLsbD 4 }

/-- The page a page byte selects (R155). -/
def pageOf (b : Byte) : Option Page :=
  if b = 0x0F then some .ext else if b = 0x2F then some .sys else if b = 0x4F then some .quick else none

/-- The part of an instruction before its operand bytes: prefixes, page and opcode byte (R150). -/
structure Head where
  /-- the prefix bytes -/
  pfx : Pfx
  /-- the page -/
  page : Page
  /-- the opcode byte -/
  code : Byte
  /-- the bytes after the opcode byte -/
  rest : List Byte
deriving DecidableEq, Repr

/-- A first byte that is a prefix1 code is one (R150). -/
def splitPrefix1 : List Byte → Option Prefix1 × List Byte
  | b :: bs => if isPrefix1 b then (some (readPrefix1 b), bs) else (none, b :: bs)
  | [] => (none, [])

/-- The next byte, if it is a prefix2 code, is one (R150). -/
def splitPrefix2 : List Byte → Option Prefix2 × List Byte
  | b :: bs => if isPrefix2 b then (some (readPrefix2 b), bs) else (none, b :: bs)
  | [] => (none, [])

/-- The next byte, if it is a page byte, selects a page (R150). -/
def splitPage : List Byte → Page × List Byte
  | b :: bs => match pageOf b with
    | some pg => (pg, bs)
    | none => (.std, b :: bs)
  | [] => (.std, [])

/-- Decode up to the opcode byte (R150). -/
def decodeHead (bs : List Byte) : Except DecodeError Head :=
  let (p1, bs1) := splitPrefix1 bs
  let (p2, bs2) := splitPrefix2 bs1
  let (pg, bs3) := splitPage bs2
  match bs3 with
  | [] => .error .truncated
  | code :: rest => .ok { pfx := { p1 := p1, p2 := p2 }, page := pg, code := code, rest := rest }

/-- The five reserved prefix bytes (R156). -/
def reservedBytes : List Byte := [0x6F, 0x8F, 0xAF, 0xCF, 0xEF]

/-- The byte that stands for a page in a report: the page byte, `$00` for the standard page (R188). -/
def pageByte : Page → Byte
  | .std => 0x00
  | .ext => 0x0F
  | .sys => 0x2F
  | .quick => 0x4F

/-- Look the opcode up in the table of its page. On the standard page a prefix1 code in opcode position is a duplicate
opcode and needs AM = 1, and a prefix2 code is reserved (R153, R157, R178). -/
noncomputable def lookupOpcode (at_ : MvnfuCode) (h : Head) : Except DecodeError Builder :=
  if h.page = .std ∧ (isPrefix2 h.code ∨ (isPrefix1 h.code ∧ h.pfx.am = false)) then .error (.misplacedPrefix h.code)
  else if h.page = .std ∧ h.code ∈ reservedBytes then .error (.reservedPrefix h.code)
  else match opcodeEntry h.page (sysCode at_ h.page h.code) with
    | some b => .ok b
    | none => .error (.unusedCode (pageByte h.page) h.code)

/-- The row of the table a builder stands for under given prefixes. -/
def builtRow (b : Builder) (p : Pfx) : Row := (b p 0 0).view.row

/-- After the opcode byte: the applicability of the prefixes (R165), then the operand bytes (R166). -/
def decodeOperand (b : Builder) (h : Head) : Except DecodeError (Instr × List Byte) :=
  if (builtRow b h.pfx).admits h.pfx then
    let k := (builtRow b h.pfx).format.operandBytes h.pfx
    if h.rest.length < k then .error .truncated
    else .ok (b h.pfx (countField h.code) (ofBytes (h.rest.take k)), h.rest.drop k)
  else .error .inapplicablePrefix

/-- Decode one instruction from the front of a list of bytes; the bytes after it are returned. -/
noncomputable def decode (at_ : MvnfuCode) (bs : List Byte) : Except DecodeError (Instr × List Byte) :=
  match decodeHead bs with
  | .error e => .error e
  | .ok h => match lookupOpcode at_ h with
    | .error e => .error e
    | .ok b => decodeOperand b h

/-- The byte of a prefix1 (R151). -/
def prefix1Byte (q : Prefix1) : Byte :=
  (match q.offset with | .none => 0x03 | .pc => 0x43 | .sp => 0x83 | .b => 0xC3) |||
  (match q.size with | .b8 => 0x00 | .b16 => 0x10 | .b32 => 0x20 | .b64 => 0x30) ||| (if q.am then 0x04 else 0x00)

/-- The byte of a prefix2 (R152). -/
def prefix2Byte (q : Prefix2) : Byte :=
  (if q.um then 0x8B else 0x0B) |||
  (match q.ext with | .none => 0x00 | .sign => 0x20 | .zero => 0x40 | .ones => 0x60) ||| (if q.nf then 0x10 else 0x00)

/-- The prefix bytes, prefix1 first (R153). -/
def encodePfx (p : Pfx) : List Byte := (p.p1.map prefix1Byte).toList ++ (p.p2.map prefix2Byte).toList

/-- The page byte, none for the standard page (R155). -/
def encodePage : Page → List Byte
  | .std => []
  | pg => [pageByte pg]

/-- The opcode byte: the row's, with the count field of a QUICK opcode in bits 6:4 (R175). -/
def encodeCode (at_ : MvnfuCode) (v : View) : Byte :=
  sysCode at_ v.row.page (if v.row.page = .quick then v.row.code ||| (v.cnt.setWidth 8 <<< 4) else v.row.code)

/-- The bytes of an instruction (R150): prefixes, page byte, opcode byte, operand bytes little-endian. -/
def encode (at_ : MvnfuCode) (i : Instr) : List Byte :=
  encodePfx i.view.pfx ++ encodePage i.view.row.page ++ encodeCode at_ i.view ::
    toBytes (i.view.row.format.operandBytes i.view.pfx) i.view.op

/-- The bytes of an opcode-table word whose bits are numbered as the table numbers them (R188): `page : opcode`, the page
byte above the opcode byte, `$00` for the standard page. A duplicate opcode is given the prefix1 `$07` it needs. -/
def tablePattern (w : Nat) : List Byte :=
  let code : Byte := BitVec.ofNat 8 w
  let page := w / 256
  if page = 0 then (if isPrefix1 code then [0x07, code] else [code])
  else [BitVec.ofNat 8 page, code]

/-- The bytes of a number, least significant first, as many as asked for. -/
def numberBytes : Nat → Nat → List Byte
  | 0, _ => []
  | k + 1, w => BitVec.ofNat 8 w :: numberBytes k (w / 256)

/-- The longest instruction in bytes (R170). -/
def maxInstrBytes : Nat := 12

/-- The instruction bytes an opcode-table word stands for, with zeros after them up to the longest instruction (log
entry 18): the table's own `page : opcode` numbering where that is one of the four pages, else the bytes in memory order. -/
def tableBytes (nbits w : Nat) : List Byte :=
  let bytes :=
    if w / 256 = 0 ∨ w / 256 = 0x0F ∨ w / 256 = 0x2F ∨ w / 256 = 0x4F then tablePattern w
    else numberBytes (nbits / 8) w
  (bytes ++ List.replicate maxInstrBytes 0).take maxInstrBytes

/-- The instruction the decoder reads from an opcode-table word, every bit above `nbits` zero. -/
noncomputable def decodeTableWord (nbits w : Nat) : Option Instr := match decode .at94 (tableBytes nbits w) with
  | .ok (i, _) => some i
  | .error _ => none

end Sys2Proof
end

