-- ==== Sys2Proof/Machine/Fetch.lean ====
section
/-! DEFINITION. Fetching the bytes of an instruction (spec/20_memory.md R128, spec/30_encoding.md R150) and the order of
the checks on them (spec/60_exceptions.md R663). -/

namespace Sys2Proof.Machine

/-- The bytes that can be fetched from `a` on, at most `k` of them, and the stop at the first that cannot. -/
def fetchBytes (s : State) : Nat → Word → List Byte × Option Stop
  | 0, _ => ([], none)
  | k + 1, a => match readByte s s.cur a .fetch with
    | .error x => ([], some x)
    | .ok b =>
      let r := fetchBytes s k (low s.w (a + 1))
      (b :: r.1, r.2)

/-- The bytes at the pc, as many as the longest instruction has (R170). -/
def fetchWindow (s : State) : List Byte × Option Stop := fetchBytes s maxInstrBytes (low s.w s.pc)

/-- The answer when a byte the instruction needs cannot be fetched; `len` bytes from the pc is what counts as the next
instruction (log entry 7). -/
def fetchStop (s : State) (len : Nat) : Option Stop → Answer
  | some (.abort k) => abortAnswer s (s.pc + BitVec.ofNat 64 len) k s.mem
  | some (.fault f) => .fault f
  | some (.refuse r) => .refused r
  | none => .refused (.undecodable .truncated)

/-- The answer when the bytes at the pc do not decode (R663, R178, R619): a byte that cannot be fetched, PRIVOP once the
opcode of a privileged instruction is known, or a refusal by name (log entry 8). -/
noncomputable def fetchFailure (s : State) (w : List Byte × Option Stop) (e : DecodeError) : Answer :=
  match decodeHead w.1 with
  | .error _ => fetchStop s w.1.length w.2
  | .ok h => match lookupOpcode s.cfg.mvnfuAt h with
    | .error _ =>
      if h.page = .sys ∧ s.isHyp = false then
        abortAnswer s (s.pc + BitVec.ofNat 64 (w.1.length - h.rest.length)) .privop s.mem
      else .refused (.undecodable e)
    | .ok b =>
      let row := builtRow b h.pfx
      let len := instrBytes row.page row.format h.pfx
      if (row.page = .sys ∨ h.pfx.um) ∧ s.isHyp = false then
        abortAnswer s (s.pc + BitVec.ofNat 64 len) .privop s.mem
      else if e = .truncated then fetchStop s len w.2
      else .refused (.undecodable e)

/-- The instruction at the pc, or the answer of a step that finds none. -/
noncomputable def fetchInstr (s : State) : Except Answer Instr :=
  match decode s.cfg.mvnfuAt (fetchWindow s).1 with
  | .ok (i, _) => .ok i
  | .error e => .error (fetchFailure s (fetchWindow s) e)

/-- Store bytes where the machine fetches them, from address `a` on; where the fetch would abort, at the address itself. -/
def placeBytes (s : State) (a : Word) : List Byte → State
  | [] => s
  | v :: vs =>
    let p := match locate s s.cur a .fetch with
      | .ok (some p) => p
      | _ => a.toNat
    placeBytes { s with mem := s.mem.store p v } (low s.w (a + 1)) vs

end Sys2Proof.Machine
end

