-- ==== Sys2Proof/Machine/Step.lean ====
section
/-! DEFINITION. One step of the machine (spec/00_scope.md R12), and placing an instruction where the next step fetches. -/

namespace Sys2Proof.Machine

/-- One step of the core (R12, D35): a stopped core does nothing (R716); otherwise an accepted interrupt is entered (R675);
a waiting core without one waits on (R717); a running core runs the instruction at the pc. Execution is defined for one
core only (R131, R710; log entry 12). -/
noncomputable def step (s : State) : Host.Outcome State Fault Refusal :=
  if s.cfg.ncore ≠ 1 then .refused .severalCores
  else if s.run = .stopped then .next s
  else match acceptedInterrupt s with
    | some k => answer (enterInterrupt s k)
    | none =>
      if s.run = .waiting then .next s
      else match fetchInstr s with
        | .ok i => exec i s
        | .error a => a

/-- `s` with the instruction of an opcode-table word stored where the next step fetches: only memory changes (log
entry 5). -/
def State.withFetchWord (s : State) (nbits w : Nat) : State := placeBytes s (low s.w s.pc) (tableBytes nbits w)

end Sys2Proof.Machine
end

