-- ==== Sys2Proof/Safety.lean ====
section
/-! DEFINITION. What counts as a good state, and the terms the claims use for the two modes. -/

namespace Sys2Proof.Machine

/-- A value fits in a `W`-bit register. -/
def State.fits (s : State) (v : Word) : Bool := low s.w v == v

/-- The parameters are legal, every `W`-bit register fits, and the bases of the vector tables are aligned (R4, R21 to R27,
R44 to R47). -/
def State.registersOk (s : State) : Bool :=
  s.cfg.legal && s.fits s.a && s.fits s.x && s.fits s.y && s.fits s.e && s.fits s.b && s.fits s.spu && s.fits s.sph &&
  s.fits s.pc && s.fits s.iv && s.fits s.av && s.fits s.tv && s.fits s.tmv && s.fits s.actCore &&
  low 8 s.iv == 0 && low 8 s.av == 0 && low 9 s.tv == 0

/-- `SF` names a frame size the core has (R39), and without HYP the mode bits are 1 (R37, R38). -/
def State.statusOk (s : State) : Bool :=
  codeBytes s.sr.sf != 0 && decide (codeBytes s.sr.sf ≤ s.wBytes) && (s.cfg.hyp || (s.sr.h && s.sr.p))

/-- There are NCONT container sets of `W`-bit registers (R67). -/
def State.containersOk (s : State) : Bool :=
  s.cont.length == s.cfg.ncont && s.cont.all fun c => s.fits c.mask && s.fits c.cmp && s.fits c.off

/-- Memory is in canonical form and lies in the address space (R102). -/
def State.memoryOk (s : State) : Bool := s.mem.wf && s.mem.all fun c => decide (c.1 < 2 ^ s.w)

/-- The core's own bit of MC_ACTCORE, if it has one, says whether it is stopped (R53, R74, R637). -/
def State.activityOk (s : State) : Bool :=
  decide (s.w ≤ s.cfg.myCore) || s.actCore.getLsbD s.cfg.myCore == (s.run != .stopped)

/-- A good state: what reset leaves and every step keeps. -/
def State.wellFormed (s : State) : Bool :=
  s.registersOk && s.statusOk && s.containersOk && s.memoryOk && s.activityOk

/-- The physical addresses that a write in the user environment can reach (R129). -/
def State.userWritable (s : State) (q : Nat) : Prop := ∃ ea, locate s .user (low s.w ea) .write = .ok (some q)

end Sys2Proof.Machine
end

