-- ==== Sys2Proof/Claims.lean ====
section
/-! DEFINITION. The words the statements of Certificates/Slice0/Obligations.lean are written in: results as natural and
integer arithmetic, the bytes a store or a frame writes, and the forms of each group of instructions. -/

namespace Sys2Proof.Claims

open Sys2Proof.Machine

/-! ### Numbers -/

/-- A number in a register. -/
def word (v : Nat) : Word := BitVec.ofNat 64 v

/-- An integer modulo `2^w` in a register. -/
def wrap (w : Nat) (v : Int) : Word := word (v % 2 ^ w).toNat

/-- An `n`-bit value read as a two's complement number. -/
def signed (n v : Nat) : Int := if v < 2 ^ (n - 1) then v else (v : Int) - 2 ^ n

/-- A number that `n` bits cannot hold in two's complement. -/
def overflows (n : Nat) (v : Int) : Bool := decide (v < -2 ^ (n - 1) ∨ 2 ^ (n - 1) ≤ v)

/-- An `n`-bit value under LEeff, `w` bits wide (R252); with LEeff 00 the value. -/
def extended (n w : Nat) (e : Extension) (v : Nat) : Nat := match e with
  | .none | .zero => v
  | .sign => if v < 2 ^ (n - 1) then v else v + (2 ^ w - 2 ^ n)
  | .ones => v + (2 ^ w - 2 ^ n)

/-- A value with its low `n` bits replaced (R7). -/
def replaced (n old v : Nat) : Nat := old / 2 ^ n * 2 ^ n + v

/-- A register after a load or transfer of an `n`-bit value: with LEeff 00 the bits above stay (R252). -/
def loaded (n w : Nat) (e : Extension) (old v : Nat) : Nat := match e with
  | .none => replaced n old v
  | _ => extended n w e v

/-- One single step on an `n`-bit value and a carry (R440), as arithmetic. -/
def stepped (k : Step1) (n v : Nat) (c : Bool) : Nat × Bool := match k with
  | .inc => ((v + 1) % 2 ^ n, c)
  | .dec => ((v + (2 ^ n - 1)) % 2 ^ n, c)
  | .asl => (2 * v % 2 ^ n, decide (2 ^ (n - 1) ≤ v))
  | .lsr => (v / 2, v % 2 == 1)
  | .asr => (v / 2 + (if 2 ^ (n - 1) ≤ v then 2 ^ (n - 1) else 0), v % 2 == 1)
  | .rol => (2 * v % 2 ^ n + c.toNat, decide (2 ^ (n - 1) ≤ v))
  | .ror => (v / 2 + c.toNat * 2 ^ (n - 1), v % 2 == 1)
  | .rdl => (2 * v % 2 ^ n + v / 2 ^ (n - 1), decide (2 ^ (n - 1) ≤ v))
  | .rdr => (v / 2 + v % 2 * 2 ^ (n - 1), v % 2 == 1)

/-- The step `t` times (R440). -/
def steppedTimes (k : Step1) (n : Nat) : Nat → Nat × Bool → Nat × Bool
  | 0, q => q
  | t + 1, q => steppedTimes k n t (stepped k n q.1 q.2)

/-! ### Flags -/

/-- `N` and `Z` of an `n`-bit value (R257); with NF nothing is written (R259). -/
def flagsNZ (nf : Bool) (n v : Nat) (r : Status) : Status :=
  if nf then r else { r with n := decide (2 ^ (n - 1) ≤ v), z := decide (v = 0) }

/-- The four flags of a sum or difference at width `n`: its value, carry, and its exact two's complement value (R258). -/
def flagsNVZC (nf : Bool) (n v : Nat) (c : Bool) (exact : Int) (r : Status) : Status :=
  if nf then r else { r with n := decide (2 ^ (n - 1) ≤ v), v := overflows n exact, z := decide (v = 0), c := c }

/-- The flags after the last single step: `C` is not written by `inc` and `dec` (R440). -/
def flagsStep (k : Step1) (nf : Bool) (n : Nat) (q : Nat × Bool) (r : Status) : Status :=
  if nf then r else match k with
    | .inc | .dec => flagsNZ false n q.1 r
    | _ => { flagsNZ false n q.1 r with c := q.2 }

/-! ### Bytes and memory -/

/-- The `k` low bytes of a number, least significant first (R104). -/
def littleEndian (k v : Nat) : List Byte := (List.range k).map fun j => BitVec.ofNat 8 (v / 256 ^ j)

/-- The same, most significant first: the order of a push (R270). -/
def bigEndian (k v : Nat) : List Byte := (littleEndian k v).reverse

/-- Bytes at rising addresses (R107). -/
def upward (ea : Word) (bs : List Byte) : List (Word × Byte) := bs.mapIdx fun j b => (ea + word j, b)

/-- Bytes at falling addresses: a push in the order it writes (R270). -/
def downward (sp : Word) (bs : List Byte) : List (Word × Byte) := bs.mapIdx fun j b => (sp - word j, b)

/-- No byte of a write aborts. -/
def writable (s : State) (env : Env) (cells : List (Word × Byte)) : Bool := cells.all fun c =>
  match locate s env (low s.w c.1) .write with
  | .ok _ => true
  | .error _ => false

/-- The `k` bytes at an address can be read. -/
def readable (s : State) (env : Env) (ea : Word) (k : Nat) : Bool := match memRead s env ea k with
  | .ok _ => true
  | .error _ => false

/-- Where the bytes of a write land in physical memory, in order; one that READONLY drops lands nowhere (R123). -/
def landed (s : State) (env : Env) (cells : List (Word × Byte)) : List (Nat × Byte) := cells.filterMap fun c =>
  match locate s env (low s.w c.1) .write with
  | .ok (some p) => some (p, c.2)
  | _ => none

/-- The byte at `q` after bytes have landed: the last one that landed there, else the old one. -/
def byteAfter (m : Memory) (ws : List (Nat × Byte)) (q : Nat) : Byte := match ws.reverse.find? fun c => c.1 == q with
  | some c => c.2
  | none => m.byteAt q

/-- `m` is the memory of `s` after writing exactly these bytes: every other byte reads as before. -/
def Stores (s : State) (env : Env) (cells : List (Word × Byte)) (m : Memory) : Prop :=
  m.wf = true ∧ ∀ q, m.byteAt q = byteAfter s.mem (landed s env cells) q

/-! ### Instructions and states -/

/-- An instruction given its prefix bytes and operand. -/
abbrev Form := Pfx → Word → Instr

/-- A form without an operand. -/
def bare (c : Pfx → Instr) : Form := fun p _ => c p

/-- The mode and the options let the instruction run (R701, R703). -/
def permitted (i : Instr) (s : State) : Bool :=
  (s.isHyp || (i.view.row.page != .sys && !i.view.pfx.um)) && (s.cfg.hyp || !i.view.pfx.um)

/-- It may run, and its operation is no wider than `W` (R250). -/
def ready (i : Instr) (s : State) : Bool := permitted i s && decide (opBits i.view.pfx ≤ s.w)

/-- The state with the pc after the instruction. -/
def past (i : Instr) (s : State) : State :=
  s.setPc (s.pc + BitVec.ofNat 64 (instrBytes i.view.row.page i.view.row.format i.view.pfx))

/-- The effective address of the instruction, found as its meaning finds it. -/
def address (i : Instr) (s : State) : Res Word := effectiveAddress i.view.row.format i.view.pfx i.view.op (past i s)

/-- The source value of the instruction, found as its meaning finds it. -/
def operand (i : Instr) (s : State) : Res Word := sourceOperand i.view.row.format i.view.pfx i.view.op (past i s)

/-- The value of a register before the instruction. -/
def ofReg (r : Reg) (_ : Pfx) (s : State) : Word := s.reg r

/-- The stack pointer of the data environment before the instruction. -/
def stackPointer (p : Pfx) (s : State) : Word := s.sp (s.denv p)

/-- The width a computing instruction works at: `n` with LEeff 00, else `W` (R350). -/
def workWidth (e : Extension) (n w : Nat) : Nat := match e with
  | .none => n
  | _ => w

/-! ### Exceptions -/

/-- The status byte as a number, with bits 5 and 4 as given (R28, R680, R684). -/
def statusNumber (r : Status) (bit5 bit4 : Bool) : Nat :=
  128 * r.n.toNat + 64 * r.v.toNat + 32 * bit5.toNat + 16 * bit4.toNat + 8 * r.d.toNat + 4 * r.i.toNat + 2 * r.z.toNat +
    r.c.toNat

/-- The extended status byte as a number (R28, R680). -/
def extendedNumber (h p : Bool) (sf : BitVec 2) : Nat := 8 * h.toNat + 4 * p.toNat + sf.toNat

/-- The size of a frame's address (R682): 2 or 4 bytes if the address is a sign-extended one and FRAME_SHORTEN is set. -/
def frameSize (c : Config) (ret : Nat) : Nat :=
  if c.frameShorten && decide (ret < 2 ^ 15 ∨ 2 ^ c.width.bits - 2 ^ 15 ≤ ret) then 2
  else if c.frameShorten && c.width == .w64 && decide (ret < 2 ^ 31 ∨ 2 ^ 64 - 2 ^ 31 ≤ ret) then 4
  else c.width.bytes

/-- The SF code of a frame size (R39). -/
def sizeCode (k : Nat) : BitVec 2 := match k with
  | 2 => 1
  | 4 => 2
  | _ => 3

/-- The frame of the extended sequence without a status byte, in push order (R680). -/
def extendedFrame (s : State) (ret : Nat) : List Byte :=
  bigEndian (frameSize s.cfg ret) ret ++ [BitVec.ofNat 8 (extendedNumber s.isHyp s.prevHyp (sizeCode (frameSize s.cfg ret)))]

/-- The 6502 compatible frame, in push order (R684). -/
def compatFrame (s : State) (ret : Nat) (b : Bool) : List Byte := bigEndian 2 ret ++ [BitVec.ofNat 8 (statusNumber s.sr true b)]

/-- The state after pushing a frame of the extended sequence (R680), with the memory given. -/
def entered (s : State) (ret : Nat) (frame : List Byte) (m : Memory) : State :=
  { s.setSp s.cur (s.sp s.cur - word frame.length) with
    mem := m
    sr := { s.sr with h := true, p := s.isHyp, sf := sizeCode (frameSize s.cfg ret) }
    link := none }

/-- The state after pushing a 6502 compatible frame (R684, R686), with the memory given. -/
def enteredCompat (s : State) (frame : List Byte) (m : Memory) : State :=
  { s.setSp s.cur (s.sp s.cur - word frame.length) with mem := m, sr := { s.sr with i := true }, link := none }

/-- A target in the 64 kB block of a vector table (R111 to R113). -/
def inBlock (base v : Word) : Word := word (base.toNat / 65536 * 65536 + v.toNat)

/-- A two-byte vector, sign-extended (R110). -/
def signedTarget (s : State) (v : Word) : Word := wrap s.w (signed 16 v.toNat)

/-- `PullEnv` (R690). -/
def pullsFrom (s : State) : Env := if s.isHyp ∧ s.prevHyp then .hyp else .user

/-- The size of the address that a pulled extended status byte announces (R39). -/
def announcedBytes (x : Word) : Nat := if x.toNat % 4 = 1 then 2 else if x.toNat % 4 = 2 then 4 else 8

/-- RTI and RTU go on to pull the address: its size exists in the core (R39) and the byte is allowed on its stack (R694). -/
def framePulled (s : State) (x : Word) : Prop :=
  x.toNat % 4 ≠ 0 ∧ announcedBytes x ≤ s.wBytes ∧ ¬ (pullsFrom s = .user ∧ x.getLsbD 3 = true)

/-- The answer of an instruction that takes abort `k` in state `s` (R664, R666). -/
def abortOf (i : Instr) (s : State) (k : AbortKind) : Answer := answer (enterAbort s (past i s).pc k)

/-- If this read aborts, the instruction takes that abort from the state before it (R664). -/
def takesReadAbort {α : Type} (i : Instr) (s : State) (r : Res α) : Prop :=
  ∀ k m, r = .error { stop := .abort k, mem := m } → exec i s = abortOf i s k

/-- If byte `j` of this write is the first that aborts, the instruction takes that abort from the state before it, but with
the bytes before `j` written (R107, R664). -/
def takesWriteAbort (i : Instr) (s : State) (env : Env) (cells : List (Word × Byte)) : Prop :=
  ∀ j c k, cells[j]? = some c → writable s env (cells.take j) = true →
    locate s env (low s.w c.1) .write = .error (.abort k) →
    ∃ m, Stores s env (cells.take j) m ∧ exec i s = abortOf i { s with mem := m } k

/-! ### Fetching -/

/-- The byte `j` places after the pc can be fetched and is `b`. -/
def fetches (s : State) (j : Nat) (b : Byte) : Prop := readByte s s.cur (low s.w (s.pc + word j)) .fetch = .ok b

/-- Nothing but an instruction can happen next: one core, running, no interrupt accepted. -/
def atInstruction (s : State) : Prop := s.cfg.ncore = 1 ∧ s.run = .running ∧ acceptedInterrupt s = none

/-- The codes of the EXT page (R176). -/
def extCodes : List Byte :=
  [0x02, 0x04, 0x06, 0x08, 0x09, 0x0A, 0x0C, 0x0D, 0x0E, 0x14, 0x16, 0x1C, 0x1D, 0x1E, 0x1F, 0x20, 0x22, 0x24,
   0x25, 0x26, 0x28, 0x29, 0x2A, 0x2D, 0x2E, 0x34, 0x35, 0x36, 0x39, 0x3D, 0x3E, 0x3F, 0x42, 0x44, 0x45, 0x48,
   0x49, 0x4D, 0x54, 0x55, 0x58, 0x59, 0x62, 0x64, 0x65, 0x66, 0x68, 0x69, 0x6A, 0x6D, 0x6E, 0x74, 0x75, 0x76,
   0x7D, 0x7E, 0x7F, 0x80, 0x81, 0x82, 0x84, 0x85, 0x86, 0x88, 0x89, 0x8A, 0x8C, 0x8D, 0x8E, 0x91, 0x92, 0x94,
   0x95, 0x96, 0x98, 0x99, 0x9A, 0x9C, 0x9E, 0xA0, 0xA1, 0xA2, 0xA4, 0xA5, 0xA9, 0xAD, 0xAE, 0xB1, 0xB2, 0xB4,
   0xB5, 0xB8, 0xB9, 0xBA, 0xBC, 0xBD, 0xBE, 0xC0, 0xC2, 0xC4, 0xC5, 0xC8, 0xC9, 0xCA, 0xCD, 0xD4, 0xD5, 0xD8,
   0xDA, 0xE0, 0xE2, 0xE4, 0xE5, 0xE8, 0xE9, 0xEA, 0xED, 0xF4, 0xF5, 0xF8, 0xFA]

/-- The codes of the SYS page (R177). -/
def sysCodes : List Byte :=
  [0x01, 0x04, 0x14, 0x21, 0x41, 0x44, 0x4C, 0x55, 0x60, 0x6C, 0x74, 0x94, 0xB4, 0xD1, 0xD4, 0xF1, 0xF4]

/-! ### The forms of each group

Noncomputable for the reason Decode.lean gives: they build instructions. -/

noncomputable section

/-- The loads: the register loaded, and the form (R301 to R303, R501 to R503, R575, R576). -/
def loads : List (Reg × Form) :=
  [(.a, Instr.ldaZpY), (.a, Instr.ldaIndAbsY), (.a, Instr.ldaIndAbsX), (.y, Instr.ldyImm), (.a, Instr.ldaIndZpX),
   (.x, Instr.ldxImm), (.y, Instr.ldyZp), (.a, Instr.ldaZp), (.x, Instr.ldxZp), (.a, Instr.ldaImm),
   (.y, Instr.ldyAbs), (.a, Instr.ldaAbs), (.x, Instr.ldxAbs), (.a, Instr.ldaIndZpY), (.a, Instr.ldaIndZp),
   (.y, Instr.ldyZpX), (.a, Instr.ldaZpX), (.x, Instr.ldxZpY), (.a, Instr.ldaAbsY), (.y, Instr.ldyAbsX),
   (.a, Instr.ldaAbsX), (.x, Instr.ldxAbsY), (.a, Instr.ldaQindAbsY), (.a, Instr.ldaQindAbsX),
   (.a, Instr.ldaQindZpX), (.a, Instr.ldaQindZpY), (.a, Instr.ldaQindZp), (.e, Instr.ldeImm), (.b, Instr.ldbImm),
   (.y, bare Instr.ldyE), (.x, bare Instr.ldxE), (.a, bare Instr.ldaE)]

/-- The stores: the register stored, none for STZ (R304 to R307, R504 to R508). -/
def stores : List (Option Reg × Form) :=
  [(some .a, Instr.staZpY), (none, Instr.stzZp), (none, Instr.stzZpX), (some .a, Instr.staIndZpX),
   (some .y, Instr.styZp), (some .a, Instr.staZp), (some .x, Instr.stxZp), (some .y, Instr.styAbs),
   (some .a, Instr.staAbs), (some .x, Instr.stxAbs), (some .a, Instr.staIndZpY), (some .a, Instr.staIndZp),
   (some .y, Instr.styZpX), (some .a, Instr.staZpX), (some .x, Instr.stxZpY), (some .a, Instr.staAbsY),
   (none, Instr.stzAbs), (some .a, Instr.staAbsX), (none, Instr.stzAbsX), (some .y, Instr.styAbsX),
   (some .x, Instr.stxAbsY), (some .a, Instr.staIndAbsY), (some .a, Instr.staIndAbsX), (some .a, Instr.staQindZpX),
   (some .a, Instr.staQindZpY), (some .a, Instr.staQindZp), (some .a, Instr.staQindAbsY),
   (some .a, Instr.staQindAbsX), (some .y, bare Instr.styE), (some .a, bare Instr.staE), (some .x, bare Instr.stxE),
   (none, bare Instr.stzE), (none, Instr.stzAbsY)]

/-- The transfers that take a size: destination, source (R310 to R314, R585, R587, R589, R590, R592). -/
def transfers : List (Reg × (Pfx → State → Word) × Form) :=
  [(.a, ofReg .x, bare Instr.txa), (.a, ofReg .y, bare Instr.tya), (.y, ofReg .a, bare Instr.tay),
   (.x, ofReg .a, bare Instr.tax), (.x, stackPointer, bare Instr.tsx), (.e, ofReg .a, bare Instr.tae),
   (.y, stackPointer, bare Instr.tsy), (.b, ofReg .a, bare Instr.tab), (.b, ofReg .e, bare Instr.teb),
   (.e, ofReg .b, bare Instr.tbe)]

/-- TXS and TYS: source (R322, R593). -/
def toStack : List (Reg × Form) :=
  [(.x, bare Instr.txs), (.y, bare Instr.tys)]

/-- The transfers of a whole register into `A`: what is transferred (R586, R588, R591). -/
def wholeTransfers : List ((State → Word) × Form) :=
  [(State.e, bare Instr.tea), (State.pc, bare Instr.tpa), (State.b, bare Instr.tba)]

/-- The swaps: the two registers (R595 to R599). -/
def swaps : List (Reg × Reg × Form) :=
  [(.x, .y, bare Instr.sxy), (.e, .b, bare Instr.seb), (.a, .x, bare Instr.sax), (.a, .e, bare Instr.sae),
   (.a, .y, bare Instr.say)]

/-- The pushes: whether the whole register is pushed, and the register (R315 to R317, R578, R580). -/
def pushes : List (Bool × Reg × Form) :=
  [(false, .a, bare Instr.pha), (false, .y, bare Instr.phy), (false, .x, bare Instr.phx),
   (true, .e, bare Instr.phe), (true, .b, bare Instr.phb)]

/-- The pulls: whether a whole register is pulled, and the register (R318 to R320, R579, R581). -/
def pulls : List (Bool × Reg × Form) :=
  [(false, .a, bare Instr.pla), (false, .y, bare Instr.ply), (false, .x, bare Instr.plx),
   (true, .e, bare Instr.ple), (true, .b, bare Instr.plb)]

/-- ORA, AND and EOR: what is done to each pair of bits (R351 to R353, R509 to R511). -/
def logicForms : List ((Bool → Bool → Bool) × Form) :=
  [(or, Instr.oraIndZpX), (or, Instr.oraZp), (or, Instr.oraImm), (or, Instr.oraAbs), (or, Instr.oraIndZpY),
   (or, Instr.oraIndZp), (or, Instr.oraZpX), (or, Instr.oraAbsY), (or, Instr.oraAbsX), (and, Instr.andIndZpX),
   (and, Instr.andZp), (and, Instr.andImm), (and, Instr.andAbs), (and, Instr.andIndZpY), (and, Instr.andIndZp),
   (and, Instr.andZpX), (and, Instr.andAbsY), (and, Instr.andAbsX), (xor, Instr.eorIndZpX), (xor, Instr.eorZp),
   (xor, Instr.eorImm), (xor, Instr.eorAbs), (xor, Instr.eorIndZpY), (xor, Instr.eorIndZp), (xor, Instr.eorZpX),
   (xor, Instr.eorAbsY), (xor, Instr.eorAbsX), (or, Instr.oraQindZpX), (or, Instr.oraQindZpY),
   (or, Instr.oraQindZp), (and, Instr.andQindZpX), (and, Instr.andQindZpY), (and, Instr.andQindZp),
   (xor, Instr.eorQindZpX), (xor, Instr.eorQindZpY), (xor, Instr.eorQindZp), (or, bare Instr.oraE),
   (and, bare Instr.andE), (xor, bare Instr.eorE)]

/-- ADC (R354, R512). -/
def addForms : List Form :=
  [Instr.adcIndZpX, Instr.adcZp, Instr.adcImm, Instr.adcAbs, Instr.adcIndZpY, Instr.adcIndZp, Instr.adcZpX,
   Instr.adcAbsY, Instr.adcAbsX, Instr.adcQindZpX, Instr.adcQindZpY, Instr.adcQindZp, bare Instr.adcE]

/-- SBC (R355, R513). -/
def subtractForms : List Form :=
  [Instr.sbcIndZpX, Instr.sbcZp, Instr.sbcImm, Instr.sbcAbs, Instr.sbcIndZpY, Instr.sbcIndZp, Instr.sbcZpX,
   Instr.sbcAbsY, Instr.sbcAbsX, Instr.sbcQindZpX, Instr.sbcQindZpY, Instr.sbcQindZp, bare Instr.sbcE]

/-- CMP, CPX and CPY: the register compared (R360, R362, R364, R514 to R516). -/
def compareForms : List (Reg × Form) :=
  [(.y, Instr.cpyImm), (.a, Instr.cmpIndZpX), (.y, Instr.cpyZp), (.a, Instr.cmpZp), (.a, Instr.cmpImm),
   (.y, Instr.cpyAbs), (.a, Instr.cmpAbs), (.a, Instr.cmpIndZpY), (.a, Instr.cmpIndZp), (.a, Instr.cmpZpX),
   (.a, Instr.cmpAbsY), (.a, Instr.cmpAbsX), (.x, Instr.cpxImm), (.x, Instr.cpxZp), (.x, Instr.cpxAbs),
   (.a, Instr.cmpQindZpX), (.a, Instr.cmpQindZpY), (.a, Instr.cmpQindZp), (.y, bare Instr.cpyE),
   (.a, bare Instr.cmpE), (.x, bare Instr.cpxE)]

/-- BIT with an operand (R363, R517). -/
def bitForms : List Form :=
  [Instr.bitZp, Instr.bitAbs, Instr.bitZpX, Instr.bitAbsX, Instr.bitImm, bare Instr.bitE]

/-- The read-modify-write instructions on memory: the step, whether it is a QUICK form (R365, R366, R371 to R374, R520 to R528). -/
def memorySteps : List (Step1 × Bool × (Pfx → Word → BitVec 3 → Instr)) :=
  [(.asl, false, fun p op _ => Instr.aslZp p op), (.asl, false, fun p op _ => Instr.aslAbs p op),
   (.asl, false, fun p op _ => Instr.aslZpX p op), (.asl, false, fun p op _ => Instr.aslAbsX p op),
   (.asl, false, fun p op _ => Instr.aslAbsY p op), (.rol, false, fun p op _ => Instr.rolZp p op),
   (.rol, false, fun p op _ => Instr.rolAbs p op), (.rol, false, fun p op _ => Instr.rolZpX p op),
   (.rol, false, fun p op _ => Instr.rolAbsX p op), (.rol, false, fun p op _ => Instr.rolAbsY p op),
   (.lsr, false, fun p op _ => Instr.lsrZp p op), (.lsr, false, fun p op _ => Instr.lsrAbs p op),
   (.lsr, false, fun p op _ => Instr.lsrZpX p op), (.lsr, false, fun p op _ => Instr.lsrAbsX p op),
   (.lsr, false, fun p op _ => Instr.lsrAbsY p op), (.ror, false, fun p op _ => Instr.rorZp p op),
   (.ror, false, fun p op _ => Instr.rorAbs p op), (.ror, false, fun p op _ => Instr.rorZpX p op),
   (.ror, false, fun p op _ => Instr.rorAbsX p op), (.ror, false, fun p op _ => Instr.rorAbsY p op),
   (.dec, false, fun p op _ => Instr.decZp p op), (.dec, false, fun p op _ => Instr.decAbs p op),
   (.dec, false, fun p op _ => Instr.decZpX p op), (.dec, false, fun p op _ => Instr.decAbsX p op),
   (.dec, false, fun p op _ => Instr.decAbsY p op), (.inc, false, fun p op _ => Instr.incZp p op),
   (.inc, false, fun p op _ => Instr.incAbs p op), (.inc, false, fun p op _ => Instr.incZpX p op),
   (.inc, false, fun p op _ => Instr.incAbsX p op), (.inc, false, fun p op _ => Instr.incAbsY p op),
   (.asr, false, fun p op _ => Instr.asrZp p op), (.asl, false, fun p _ _ => Instr.aslE p),
   (.asr, false, fun p op _ => Instr.asrAbs p op), (.asr, false, fun p op _ => Instr.asrZpX p op),
   (.asr, false, fun p _ _ => Instr.asrE p), (.asr, false, fun p op _ => Instr.asrAbsX p op),
   (.asr, false, fun p op _ => Instr.asrAbsY p op), (.rdl, false, fun p op _ => Instr.rdlZp p op),
   (.rol, false, fun p _ _ => Instr.rolE p), (.rdl, false, fun p op _ => Instr.rdlAbs p op),
   (.rdl, false, fun p op _ => Instr.rdlZpX p op), (.rdl, false, fun p _ _ => Instr.rdlE p),
   (.rdl, false, fun p op _ => Instr.rdlAbsX p op), (.rdl, false, fun p op _ => Instr.rdlAbsY p op),
   (.lsr, false, fun p _ _ => Instr.lsrE p), (.rdr, false, fun p op _ => Instr.rdrZp p op),
   (.ror, false, fun p _ _ => Instr.rorE p), (.rdr, false, fun p op _ => Instr.rdrAbs p op),
   (.rdr, false, fun p op _ => Instr.rdrZpX p op), (.rdr, false, fun p _ _ => Instr.rdrE p),
   (.rdr, false, fun p op _ => Instr.rdrAbsX p op), (.rdr, false, fun p op _ => Instr.rdrAbsY p op),
   (.dec, false, fun p _ _ => Instr.decE p), (.inc, false, fun p _ _ => Instr.incE p)]

/-- The QUICK forms on memory (R458 to R472). -/
def quickMemorySteps : List (Step1 × Bool × (Pfx → Word → BitVec 3 → Instr)) :=
  [(.inc, true, fun p _ n => Instr.incQuickE p n), (.dec, true, fun p _ n => Instr.decQuickE p n),
   (.rol, true, fun p _ n => Instr.rolQuickE p n), (.ror, true, fun p _ n => Instr.rorQuickE p n),
   (.rdl, true, fun p _ n => Instr.rdlQuickE p n), (.rdr, true, fun p _ n => Instr.rdrQuickE p n),
   (.asl, true, fun p _ n => Instr.aslQuickE p n), (.lsr, true, fun p _ n => Instr.lsrQuickE p n),
   (.asr, true, fun p _ n => Instr.asrQuickE p n), (.inc, true, Instr.incQuickZp), (.dec, true, Instr.decQuickZp),
   (.rol, true, Instr.rolQuickZp), (.ror, true, Instr.rorQuickZp), (.asl, true, Instr.aslQuickZp),
   (.lsr, true, Instr.lsrQuickZp)]

/-- The steps on a register: the step, the register, whether it is a QUICK form (R365 to R374, R526 to R528). -/
def registerSteps : List (Step1 × Reg × Bool × (Pfx → BitVec 3 → Instr)) :=
  [(.asl, .a, false, fun p _ => Instr.aslA p), (.inc, .a, false, fun p _ => Instr.incA p),
   (.rol, .a, false, fun p _ => Instr.rolA p), (.dec, .a, false, fun p _ => Instr.decA p),
   (.lsr, .a, false, fun p _ => Instr.lsrA p), (.ror, .a, false, fun p _ => Instr.rorA p),
   (.asr, .a, false, fun p _ => Instr.asrA p), (.rdl, .a, false, fun p _ => Instr.rdlA p),
   (.rdr, .a, false, fun p _ => Instr.rdrA p), (.dec, .y, false, fun p _ => Instr.dey p),
   (.inc, .y, false, fun p _ => Instr.iny p), (.dec, .x, false, fun p _ => Instr.dex p),
   (.inc, .x, false, fun p _ => Instr.inx p)]

/-- The QUICK forms on a register (R441 to R457). -/
def quickRegisterSteps : List (Step1 × Reg × Bool × (Pfx → BitVec 3 → Instr)) :=
  [(.inc, .y, true, Instr.inyQuick), (.dec, .y, true, Instr.deyQuick), (.inc, .x, true, Instr.inxQuick),
   (.dec, .x, true, Instr.dexQuick), (.inc, .a, true, Instr.incQuick), (.dec, .a, true, Instr.decQuick),
   (.rol, .a, true, Instr.rolQuick), (.ror, .a, true, Instr.rorQuick), (.asl, .a, true, Instr.aslQuick),
   (.lsr, .a, true, Instr.lsrQuick), (.rdl, .a, true, Instr.rdlQuick), (.rdr, .a, true, Instr.rdrQuick),
   (.asl, .x, true, Instr.slxQuick), (.lsr, .x, true, Instr.srxQuick), (.asl, .y, true, Instr.slyQuick),
   (.lsr, .y, true, Instr.sryQuick), (.asr, .a, true, Instr.asrQuick)]

/-- TSB (true) and TRB (false) (R375, R376, R518, R519). -/
def testForms : List (Bool × Form) :=
  [(true, Instr.tsbZp), (true, Instr.tsbAbs), (false, Instr.trbZp), (false, Instr.trbAbs), (true, bare Instr.tsbE),
   (false, bare Instr.trbE)]

/-- The flag instructions and NOP: what becomes of the status register (R380 to R387). -/
def flagForms : List ((Status → Status) × Form) :=
  [(fun r => { r with c := false }, bare Instr.clc), (fun r => { r with c := true }, bare Instr.sec),
   (fun r => { r with i := false }, bare Instr.cli), (fun r => { r with i := true }, bare Instr.sei),
   (fun r => { r with v := false }, bare Instr.clv), (fun r => { r with d := false }, bare Instr.cld),
   (id, bare Instr.nop), (fun r => { r with d := true }, bare Instr.sed)]

/-- The memory barriers (R532, R533). -/
def barrierForms : List Form :=
  [bare Instr.rmb, bare Instr.wmb, bare Instr.rmbE, bare Instr.wmbE]

/-- The branches: when they are taken (R401 to R409). -/
def branches : List ((Status → Bool) × Form) :=
  [(fun r => !r.n, Instr.bpl), (fun r => r.n, Instr.bmi), (fun r => !r.v, Instr.bvc), (fun r => r.v, Instr.bvs),
   (fun _ => true, Instr.bra), (fun r => !r.c, Instr.bcc), (fun r => r.c, Instr.bcs), (fun r => !r.z, Instr.bne),
   (fun r => r.z, Instr.beq)]

/-- JMP (R410). -/
def jumps : List Form :=
  [Instr.jmpAbs, Instr.jmpIndAbs, Instr.jmpIndAbsX, Instr.jmpQindAbs, Instr.jmpQindAbsX]

/-- JSR (R412). -/
def calls : List Form :=
  [Instr.jsrAbs, Instr.jsrIndAbs, Instr.jsrIndAbsX, Instr.jsrQindAbs, Instr.jsrQindAbsX, bare Instr.jsrE]

/-- BSR (R413). -/
def relativeCalls : List Form :=
  [Instr.bsrRelWide, Instr.bsrRel]

/-- LEA (R535). -/
def leaForms : List Form :=
  [Instr.leaZpY, Instr.leaIndAbsY, Instr.leaRelWide, Instr.leaIndAbsX, Instr.leaRel, Instr.leaZp, Instr.leaZpX,
   Instr.leaIndZpX, Instr.leaAbs, Instr.leaIndZpY, Instr.leaIndZp, Instr.leaAbsY, Instr.leaAbsX]

/-- PEA (R536). -/
def peaForms : List Form :=
  [Instr.peaZpY, Instr.peaRelWide, Instr.peaIndZpX, Instr.peaRel, Instr.peaZp, Instr.peaIndZpY, Instr.peaIndZp,
   Instr.peaZpX, Instr.peaAbsY, Instr.peaAbs, Instr.peaAbsX, Instr.peaIndAbsY, Instr.peaIndAbsX]

/-- The block moves: the environments read and written, and whether the addresses count up (R541, R542, R632 to R635). -/
def moveForms : List ((State → Env) × (State → Env) × Bool × Form) :=
  [(State.cur, State.cur, false, bare Instr.mvn), (State.cur, State.cur, true, bare Instr.mvp),
   (fun _ => .user, fun _ => .hyp, false, bare Instr.mvnfu),
   (fun _ => .user, fun _ => .hyp, true, bare Instr.mvpfu),
   (fun _ => .hyp, fun _ => .user, false, bare Instr.mvntu),
   (fun _ => .hyp, fun _ => .user, true, bare Instr.mvptu)]

/-- The sums on E, B and the stack pointer (none): the register, whether it is a subtraction (R561 to R572). -/
def addressSums : List (Option Reg × Bool × Form) :=
  [(some .e, false, Instr.adeImm), (some .e, false, bare Instr.adeA), (none, false, Instr.adsImm),
   (none, false, bare Instr.adsA), (some .b, false, Instr.adbImm), (some .b, false, bare Instr.adbA),
   (some .e, true, Instr.sbeImm), (some .e, true, bare Instr.sbeA), (none, true, Instr.sbsImm),
   (none, true, bare Instr.sbsA), (some .b, true, Instr.sbbImm), (some .b, true, bare Instr.sbbA)]

end

end Sys2Proof.Claims
end

