-- ==== Sys2Proof/Certificates/Slice0/Obligations.lean ====
section
/-! DEFINITION. The statements about the model, for the provers. OBLIGATIONS.json lists them; Claims.lean has the words they
are written in. Where a statement says what an instruction does, its conclusion is the whole next state: what the record
update does not name is unchanged, and memory is either unchanged or given byte by byte (`Stores`). -/

open Sys2Proof Sys2Proof.Machine Sys2Proof.Claims

/-! ### Encoding -/

/-- Words written out from the encoding tables decode to the instruction they stand for: standard page, prefixes, EXT, SYS,
QUICK and duplicate opcodes (R150 to R177). -/
def Obligations.WordsOfEveryPageDecode : Prop :=
  decode .at94 [0x23, 0xA9, 0x78, 0x56, 0x34, 0x12] =
    .ok (.ldaImm { p1 := some { offset := .none, size := .b32, am := false }, p2 := none } 0x12345678, []) ∧
  decode .at94 [0x85, 0x10, 0xEA] = .ok (.staZp .none 0x10, [0xEA]) ∧
  decode .at94 [0x83, 0x2B, 0xB1, 0x12] =
    .ok (.ldaIndZpY { p1 := some { offset := .sp, size := .b8, am := false },
                      p2 := some { um := false, ext := .sign, nf := false } } 0x12, []) ∧
  decode .at94 [0x07, 0xB7, 0x20] =
    .ok (.ldaQindZp { p1 := some { offset := .none, size := .b8, am := true }, p2 := none } 0x20, []) ∧
  decode .at94 [0x0F, 0x9A] = .ok (.sxy .none, []) ∧
  decode .at94 [0x2F, 0x21, 0x20] = .ok (.scr .none 0x20, []) ∧
  decode .at94 [0x4F, 0x24] = .ok (.aslQuick .none 2, [])

/-- Decoding gives back every well-formed instruction that was encoded, with every prefix, count field and operand, whatever
bytes follow it (R150 to R177). -/
def Obligations.DecodeOfEncodeIsTheInstruction : Prop :=
  ∀ (at_ : MvnfuCode) (i : Instr) (rest : List Byte), i.wellFormed = true →
    decode at_ (encode at_ i ++ rest) = .ok (i, rest)

/-- What decodes is well-formed, and its encoding is the bytes it was decoded from: no two byte strings mean one
instruction, and no bit is ignored (R150 to R177). -/
def Obligations.EncodeOfDecodeIsTheBytes : Prop :=
  ∀ (at_ : MvnfuCode) (bs rest : List Byte) (i : Instr), decode at_ bs = .ok (i, rest) →
    i.wellFormed = true ∧ bs = encode at_ i ++ rest

/-- R156, R178: executing a reserved prefix byte or an unused code of the standard or the EXT page is refused in either
mode, and an unused code of the SYS page is refused in hypervisor mode; the QUICK page has no unused code. -/
def Obligations.ReservedPrefixesAndUnusedCodesAreRefused : Prop :=
  ∀ s : State, atInstruction s →
    (∀ b, b ∈ ([0x6F, 0x8F, 0xAF, 0xCF, 0xEF] : List Byte) → fetches s 0 b →
      step s = .refused (.undecodable (.reservedPrefix b))) ∧
    (∀ b, b ∈ ([0x54, 0x5C, 0xD4] : List Byte) → fetches s 0 b → step s = .refused (.undecodable (.unusedCode 0x00 b))) ∧
    (∀ b, b ∉ extCodes → fetches s 0 0x0F → fetches s 1 b → step s = .refused (.undecodable (.unusedCode 0x0F b))) ∧
    (∀ b, b ∉ sysCodes → s.isHyp = true → fetches s 0 0x2F → fetches s 1 b →
      step s = .refused (.undecodable (.unusedCode 0x2F b))) ∧
    (∀ (at_ : MvnfuCode) (b c : Byte) (rest : List Byte), ∃ q, decode at_ (0x4F :: b :: c :: rest) = .ok q)

/-! ### Reset and the step -/

/-- R74, R76, R740: the values reset gives, stated or decided by the spec, from any state of any core: core 0 runs and every
other core is stopped; parameters, memory and inputs are not changed. -/
def Obligations.ResetLeavesTheListedValues : Prop :=
  ∀ s : State,
    let t := s.applyReset
    t.sr.h = true ∧ t.sr.p = true ∧ t.sr.sf = 1 ∧ t.sr.i = true ∧ t.imr = 0 ∧ t.eim = 0 ∧ t.tmv = 0 ∧ t.muUsel = 0 ∧
    t.ivAct = false ∧ t.avAct = false ∧ t.tvAct = false ∧ t.nmiPend = false ∧ t.link = none ∧
    t.run = (if s.cfg.myCore = 0 then .running else .stopped) ∧ t.actCore = 1 ∧
    t.cont.length = s.cfg.ncont ∧ (∀ c ∈ t.cont, c = { mask := 0, cmp := 0, off := 0 }) ∧
    t.cfg = s.cfg ∧ t.mem = s.mem ∧ t.irqLine = s.irqLine ∧ t.nmiLine = s.nmiLine

/-- R741: the pc after reset is the sign-extended word at physical `sext_W($FFFC)`, read without translation. -/
def Obligations.ResetTakesThePcFromTheResetVector : Prop :=
  ∀ s : State,
    s.applyReset.pc = wrap s.w (signed 16
      ((s.mem.byteAt (2 ^ s.w - 4)).toNat + 256 * (s.mem.byteAt (2 ^ s.w - 3)).toNat))

/-- The state right after reset is well formed, and resetting it changes nothing (the values the sources leave open are the
model's: log entries 1 to 3). -/
def Obligations.ResetStateIsWellFormed : Prop :=
  State.reset.wellFormed = true ∧ State.reset.applyReset = State.reset

/-- Every step from a well-formed state gives a well-formed state: registers no wider than `W`, aligned vector tables, a
frame size the core has, mode bits 1 without the hypervisor option, NCONT containers, memory canonical and inside the
address space, and the core's own bit of MC_ACTCORE (if its number is below `W`) saying whether it is stopped. -/
def Obligations.StepKeepsTheStateWellFormed : Prop :=
  ∀ s t : State, s.wellFormed = true → step s = .next t → t.wellFormed = true

/-- When the bytes from the pc on are those of a well-formed instruction, the step runs it, whatever follows it. -/
def Obligations.StepRunsTheInstructionAtThePc : Prop :=
  ∀ (s : State) (i : Instr), atInstruction s → i.wellFormed = true →
    (∀ j b, (encode s.cfg.mvnfuAt i)[j]? = some b → fetches s j b) → step s = exec i s

/-- R675, R716, R717: a stopped core changes nothing; in any other the NMI comes first, then the lowest active maskable line
if `EIM` and `SR.I` let it through; a waiting core with neither waits on (log entries 12 and 25). -/
def Obligations.InterruptsAreAcceptedAtTheBoundary : Prop :=
  ∀ s : State, s.cfg.ncore = 1 →
    (s.run = .stopped → step s = .next s) ∧
    (s.run ≠ .stopped → s.nmiPend = true → step s = answer (enterInterrupt s 0)) ∧
    (∀ k, 1 ≤ k → k ≤ s.cfg.nirq → s.irqLine.getLsbD k = true → (∀ j, 1 ≤ j → j < k → s.irqLine.getLsbD j = false) →
      s.run ≠ .stopped → s.nmiPend = false →
      (k ≤ s.eim.toNat → s.sr.i = false → step s = answer (enterInterrupt s k)) ∧
      (s.eim.toNat < k ∨ s.sr.i = true → s.run = .waiting → step s = .next s)) ∧
    ((∀ j, 1 ≤ j → j ≤ s.cfg.nirq → s.irqLine.getLsbD j = false) → s.run = .waiting → s.nmiPend = false →
      step s = .next s)

/-! ### Memory and translation -/

/-- R104, R107: a read of `k` bytes succeeds exactly when each of them can be read, and gives byte `j` at address
`ea + j`, least significant first. -/
def Obligations.MemReadIsLittleEndian : Prop :=
  ∀ (s : State) (env : Env) (ea v : Word) (k : Nat), k ≤ 8 →
    (memRead s env ea k = .ok v ↔
      v.toNat < 2 ^ (8 * k) ∧
      ∀ j, j < k → readByte s env (low s.w (ea + word j)) .read = .ok (BitVec.ofNat 8 (v.toNat / 256 ^ j)))

/-- R107: a write whose byte `j` stops has written the bytes before it and nothing else. -/
def Obligations.MemWriteStoppedKeepsEarlierBytes : Prop :=
  ∀ (s : State) (env : Env) (ea v : Word) (k j : Nat) (x : Stop), s.mem.wf = true → j < k → k ≤ 8 →
    writable s env ((upward ea (littleEndian k v.toNat)).take j) = true →
    locate s env (low s.w (ea + word j)) .write = .error x →
    ∃ m, memWrite s env ea k v = .error { stop := x, mem := m } ∧
      Stores s env ((upward ea (littleEndian k v.toNat)).take j) m

/-- R118, R120, R122, R129: a container is matched by the address with its bits 7:0 replaced by the match code; with no
container matching, the address is physical; with nothing but HYPERVISOR containers matching, a user access is PRIVMEM. -/
def Obligations.TranslationWithoutAnEffectiveContainer : Prop :=
  ∀ (s : State) (env : Env) (ea : Word) (kind : Access), env ≠ .phys →
    let key := word (ea.toNat / 256 * 256 + (if env = .user then s.muCode else s.mh).toNat)
    let hits := fun c : Container => key &&& c.mask = c.cmp ∧ c ≠ { mask := 0, cmp := 0, off := 0 }
    (s.cfg.ncont = 0 ∨ (∀ c ∈ s.cont, ¬ hits c) → translate s env ea kind = .ok (some ea)) ∧
    (s.cfg.ncont ≠ 0 → env = .user → (∃ c ∈ s.cont, hits c) → (∀ c ∈ s.cont, hits c → c.off.getLsbD 1 = true) →
      translate s env ea kind = .error .privmem)

/-- R119 to R126, R129: the matching container with the lowest number decides, those with HYPERVISOR set being passed over
for a user access. -/
def Obligations.TranslationByTheEffectiveContainer : Prop :=
  ∀ (s : State) (env : Env) (ea : Word) (kind : Access) (before after : List Container) (c : Container),
    env ≠ .phys → s.cfg.ncont ≠ 0 → s.cont = before ++ c :: after →
    let key := word (ea.toNat / 256 * 256 + (if env = .user then s.muCode else s.mh).toNat)
    let hits := fun c : Container => key &&& c.mask = c.cmp ∧ c ≠ { mask := 0, cmp := 0, off := 0 } ∧
      ¬ (env = .user ∧ c.off.getLsbD 1 = true)
    (∀ d ∈ before, ¬ hits d) → hits c →
    translate s env ea kind =
      if c.off.getLsbD 0 = false then .error .nomem
      else if kind = .fetch ∧ c.off.getLsbD 4 = true then .error .noexec
      else if kind = .write ∧ c.off.getLsbD 2 = true then (if c.off.getLsbD 3 = true then .error .wprot else .ok none)
      else .ok (some (ea ||| word (c.off.toNat / 256 * 256)))

/-! ### Addressing -/

/-- R203 to R211, R228, R231: the modes that need no pointer, modulo `2^W`: the operand widened, plus the index register,
plus the offset register; `E`; and the relative forms from the pc after the instruction. Which operands SHORT_ADDR_EXT widens
is the model's reading (log entry 14). -/
def Obligations.DirectEffectiveAddresses : Prop :=
  ∀ (f : Format) (p : Pfx) (op : Word) (s : State), s.wellFormed = true →
    let bits := 8 * f.operandBytes p
    let off : Int := match p.offset with
      | .none => 0
      | .pc => s.pc.toNat
      | .sp => (if p.um then s.spu else if s.isHyp then s.sph else s.spu).toNat
      | .b => s.b.toNat
    let a : Int := match s.cfg.shortAddr with
      | .zero => op.toNat % 2 ^ bits
      | .sign => signed bits (op.toNat % 2 ^ bits)
    (f ∈ [Format.zp, .abs] → effectiveAddress f p op s = .ok (wrap s.w (a + off))) ∧
    (f ∈ [Format.zpX, .absX] → effectiveAddress f p op s = .ok (wrap s.w (a + s.x.toNat + off))) ∧
    (f ∈ [Format.zpY, .absY] → effectiveAddress f p op s = .ok (wrap s.w (a + s.y.toNat + off))) ∧
    (f = .quickZp → effectiveAddress f p op s = .ok (wrap s.w a)) ∧
    (f ∈ [Format.eInd, .quickE] → effectiveAddress f p op s = .ok s.e) ∧
    (f ∈ [Format.relAm, .relWideAm] →
      effectiveAddress f p op s = .ok (wrap s.w (s.pc.toNat + signed bits (op.toNat % 2 ^ bits) + off)))

/-- R212 to R228, R251: an indirect mode reads its pointer at operand plus offset, plus `X` for the pre-indexed modes, in the
data environment, with 2, 4 (AM) or 8 (duplicate opcode) bytes; `Y` is added to the pointer for the post-indexed ones.
The source value of a memory operand is what stands at the effective address, of an immediate the operand. Which pointers
SHORT_ADDR_EXT widens is the model's reading (log entry 14). -/
def Obligations.IndirectEffectiveAddressesAndOperands : Prop :=
  ∀ (f : Format) (p : Pfx) (op : Word) (s : State) (v : Word), s.wellFormed = true →
    let bits := 8 * f.operandBytes p
    let off : Int := match p.offset with
      | .none => 0
      | .pc => s.pc.toNat
      | .sp => (if p.um then s.spu else if s.isHyp then s.sph else s.spu).toNat
      | .b => s.b.toNat
    let widened := fun (n v : Nat) => (match s.cfg.shortAddr with
      | .zero => (v : Int)
      | .sign => signed n v)
    let k := if f ∈ [Format.qindZp, .qindZpX, .qindZpY, .qindAbs, .qindAbsX, .qindAbsY] then 8 else if p.am then 4 else 2
    let at_ := fun (x : Int) => memRead s (s.denv p) (wrap s.w (widened bits (op.toNat % 2 ^ bits) + off + x)) k
    (f ∈ [Format.indZp, .indAbs, .qindZp, .qindAbs] → at_ 0 = .ok v →
      effectiveAddress f p op s = .ok (wrap s.w (widened (8 * k) v.toNat))) ∧
    (f ∈ [Format.indZpX, .indAbsX, .qindZpX, .qindAbsX] → at_ s.x.toNat = .ok v →
      effectiveAddress f p op s = .ok (wrap s.w (widened (8 * k) v.toNat))) ∧
    (f ∈ [Format.indZpY, .indAbsY, .qindZpY, .qindAbsY] → at_ 0 = .ok v →
      effectiveAddress f p op s = .ok (wrap s.w (widened (8 * k) v.toNat + s.y.toNat))) ∧
    (f = .imm → sourceOperand f p op s = .ok (word (op.toNat % 2 ^ opBits p))) ∧
    (f ≠ .imm → ∀ ea, effectiveAddress f p op s = .ok ea →
      sourceOperand f p op s = memRead s (s.denv p) ea p.size.bytes)

/-! ### Loads, stores, transfers -/

/-- R301 to R303, R501 to R503, R575, R576: a load writes its register with the operand under LEeff (zero-extension without
a prefix2), and `N` and `Z` from the value read at width `n`. -/
def Obligations.LoadsWriteTheExtendedOperand : Prop :=
  ∀ r mk, (r, mk) ∈ loads → ∀ (p : Pfx) (op : Word) (s : State) (m : Word),
    ready (mk p op) s = true → operand (mk p op) s = .ok m →
    exec (mk p op) s = .next
      { (past (mk p op) s).setReg r
          (word (loaded (opBits p) s.w (p.extension .zero) (s.reg r).toNat m.toNat)) with
        sr := flagsNZ p.nf (opBits p) m.toNat s.sr }

/-- R304 to R307, R504 to R508: a store writes the low `nb` bytes of its register, or zeros, at its effective address, and
changes nothing else. -/
def Obligations.StoresWriteTheRegisterBytes : Prop :=
  ∀ r mk, (r, mk) ∈ stores → ∀ (p : Pfx) (op : Word) (s : State) (ea : Word), s.wellFormed = true →
    let v := match r with
      | none => 0
      | some q => (s.reg q).toNat
    let cells := upward ea (littleEndian p.size.bytes v)
    ready (mk p op) s = true → address (mk p op) s = .ok ea → writable s (s.denv p) cells = true →
    ∃ m, exec (mk p op) s = .next { past (mk p op) s with mem := m } ∧ Stores s (s.denv p) cells m

/-- R308 to R314, R585 to R592: a transfer takes the low `n` bits of its source; TSX and TSY take the stack pointer of the
data environment. -/
def Obligations.TransfersExtendTheSource : Prop :=
  ∀ r src mk, (r, src, mk) ∈ transfers → ∀ (p : Pfx) (op : Word) (s : State), ready (mk p op) s = true →
    let m := (src p s).toNat % 2 ^ opBits p
    exec (mk p op) s = .next
      { (past (mk p op) s).setReg r (word (loaded (opBits p) s.w (p.extension .zero) (s.reg r).toNat m)) with
        sr := flagsNZ p.nf (opBits p) m s.sr }

/-- R253, R322, R593: TXS and TYS write the stack pointer of the data environment and no flag; without a prefix2 LEeff is
zero-extension, but for the unprefixed form, whose LEeff is TXS_DEFAULT_LE (that a prefix1 of default bits alone is unprefixed
is DEDUCED, log entry 30). -/
def Obligations.StackPointerTransfersSetNoFlag : Prop :=
  ∀ r mk, (r, mk) ∈ toStack → ∀ (p : Pfx) (op : Word) (s : State), ready (mk p op) s = true →
    let plain := p.p2 = none ∧ (p.p1 = none ∨ p.p1 = some { offset := .none, size := .b8, am := false })
    let e := if plain ∧ s.cfg.txsDefault = .none then Extension.none else p.extension .zero
    exec (mk p op) s = .next ((past (mk p op) s).setSp (s.denv p)
      (word (loaded (opBits p) s.w e (s.sp (s.denv p)).toNat ((s.reg r).toNat % 2 ^ opBits p))))

/-- R586, R588, R591, R595 to R599: the full width transfers into `A` set `N` and `Z` at width `W` (TPA takes the address of
the next instruction); the swaps set no flag. -/
def Obligations.WholeTransfersAndSwaps : Prop :=
  (∀ src mk, (src, mk) ∈ wholeTransfers → ∀ (p : Pfx) (op : Word) (s : State), s.wellFormed = true →
    permitted (mk p op) s = true →
    let v := src (past (mk p op) s)
    exec (mk p op) s = .next { past (mk p op) s with a := v, sr := flagsNZ p.nf s.w v.toNat s.sr }) ∧
  (∀ q r mk, (q, r, mk) ∈ swaps → ∀ (p : Pfx) (op : Word) (s : State), permitted (mk p op) s = true →
    exec (mk p op) s = .next (((past (mk p op) s).setReg q (s.reg r)).setReg r (s.reg q)))

/-! ### Stack -/

/-- R270, R315 to R317, R578, R580, R582: a push writes its bytes from the stack pointer down, most significant first, and
lowers the pointer; PRB then takes `A` into `B`. -/
def Obligations.PushesWriteDownwards : Prop :=
  (∀ whole r mk, (whole, r, mk) ∈ pushes → ∀ (p : Pfx) (op : Word) (s : State), s.wellFormed = true →
    let k := if whole then s.wBytes else p.size.bytes
    let cells := downward (s.sp (s.denv p)) (bigEndian k (s.reg r).toNat)
    ready (mk p op) s = true → writable s (s.denv p) cells = true →
    ∃ m, exec (mk p op) s = .next
        { (past (mk p op) s).setSp (s.denv p) (s.sp (s.denv p) - word k) with mem := m } ∧
      Stores s (s.denv p) cells m) ∧
  (∀ (p : Pfx) (s : State), s.wellFormed = true →
    let cells := downward (s.sp (s.denv p)) (bigEndian s.wBytes s.b.toNat)
    permitted (.prb p) s = true → writable s (s.denv p) cells = true →
    ∃ m, exec (.prb p) s = .next
        { (past (.prb p) s).setSp (s.denv p) (s.sp (s.denv p) - word s.wBytes) with
          mem := m, b := s.a, sr := flagsNZ p.nf s.w s.a.toNat s.sr } ∧
      Stores s (s.denv p) cells m)

/-- R270, R318 to R320, R579, R581: a pull reads the bytes above the stack pointer and raises it; PLA, PLX and PLY extend as
loads do, PLE and PLB take the whole register. -/
def Obligations.PullsReadUpwards : Prop :=
  ∀ whole r mk, (whole, r, mk) ∈ pulls → ∀ (p : Pfx) (op : Word) (s : State) (m : Word),
    let k := if whole then s.wBytes else p.size.bytes
    ready (mk p op) s = true → memRead s (s.denv p) (s.sp (s.denv p) + 1) k = .ok m →
    exec (mk p op) s = .next
      { ((past (mk p op) s).setSp (s.denv p) (s.sp (s.denv p) + word k)).setReg r
          (word (if whole then m.toNat
            else loaded (opBits p) s.w (p.extension .zero) (s.reg r).toNat m.toNat)) with
        sr := flagsNZ p.nf (8 * k) m.toNat s.sr }

/-- R321, R323: PHP pushes the status byte with bits 5 and 4 set; PLP takes the six flags and leaves the mode bits. -/
def Obligations.StatusIsPushedAndPulled : Prop :=
  (∀ (p : Pfx) (s : State), s.wellFormed = true →
    let cells := downward (s.sp s.cur) [BitVec.ofNat 8 (statusNumber s.sr true true)]
    permitted (.php p) s = true → writable s s.cur cells = true →
    ∃ m, exec (.php p) s = .next { (past (.php p) s).setSp s.cur (s.sp s.cur - 1) with mem := m } ∧
      Stores s s.cur cells m) ∧
  (∀ (p : Pfx) (s : State) (m : Word), permitted (.plp p) s = true →
    memRead s s.cur (s.sp s.cur + 1) 1 = .ok m →
    exec (.plp p) s = .next
      { (past (.plp p) s).setSp s.cur (s.sp s.cur + 1) with
        sr := { s.sr with n := m.getLsbD 7, v := m.getLsbD 6, d := m.getLsbD 3, i := m.getLsbD 2, z := m.getLsbD 1,
                          c := m.getLsbD 0 } })

/-! ### Arithmetic and logic -/

/-- R350 to R353, R509 to R511: ORA, AND and EOR work bit by bit on the accumulator and the operand, at width `n`, or at
width `W` on the extended operand; the accumulator's higher bits stay. -/
def Obligations.LogicWorksBitByBit : Prop :=
  ∀ g mk, (g, mk) ∈ logicForms → ∀ (p : Pfx) (op : Word) (s : State) (m : Word), s.wellFormed = true →
    ready (mk p op) s = true → operand (mk p op) s = .ok m →
    let k := workWidth (p.extension .none) (opBits p) s.w
    let r := word (extended (opBits p) s.w (p.extension .none) m.toNat)
    ∃ a, exec (mk p op) s = .next
        { past (mk p op) s with a := a, sr := flagsNZ p.nf k (a.toNat % 2 ^ k) s.sr } ∧
      ∀ j, a.getLsbD j = if j < k then g (s.a.getLsbD j) (r.getLsbD j) else s.a.getLsbD j

/-- R258, R354, R355, R512, R513: outside decimal mode ADC adds the operand and the carry and SBC subtracts the operand and
the borrow, at the working width; the carry is the carry out or the absence of a borrow, and `V` says that the exact two's
complement result does not fit. -/
def Obligations.AddAndSubtractWithCarry : Prop :=
  ∀ (mk : Form) (p : Pfx) (op : Word) (s : State) (m : Word), s.wellFormed = true → s.sr.d = false →
    ready (mk p op) s = true → operand (mk p op) s = .ok m →
    let k := workWidth (p.extension .none) (opBits p) s.w
    let l := s.a.toNat % 2 ^ k
    let r := extended (opBits p) s.w (p.extension .none) m.toNat
    (mk ∈ addForms →
      let t := l + r + s.sr.c.toNat
      exec (mk p op) s = .next
        { past (mk p op) s with
          a := word (replaced k s.a.toNat (t % 2 ^ k))
          sr := flagsNVZC p.nf k (t % 2 ^ k) (decide (2 ^ k ≤ t)) (signed k l + signed k r + s.sr.c.toNat) s.sr }) ∧
    (mk ∈ subtractForms →
      let b := 1 - s.sr.c.toNat
      let t := (l + 2 ^ k - r - b) % 2 ^ k
      exec (mk p op) s = .next
        { past (mk p op) s with
          a := word (replaced k s.a.toNat t)
          sr := flagsNVZC p.nf k t (decide (r + b ≤ l)) (signed k l - signed k r - b) s.sr })

/-- R360 to R364, R514 to R516: a compare subtracts without storing: `C` says that no borrow occurs, `Z` equality, `N` the top
bit of the difference; `V` is written only under CMP_SETS_V. -/
def Obligations.CompareSetsFlagsOnly : Prop :=
  ∀ q mk, (q, mk) ∈ compareForms → ∀ (p : Pfx) (op : Word) (s : State) (m : Word), s.wellFormed = true →
    ready (mk p op) s = true → operand (mk p op) s = .ok m →
    let k := workWidth (p.extension .none) (opBits p) s.w
    let l := (s.reg q).toNat % 2 ^ k
    let r := extended (opBits p) s.w (p.extension .none) m.toNat
    exec (mk p op) s = .next
      { past (mk p op) s with
        sr := { s.sr with
          n := decide (2 ^ (k - 1) ≤ (l + 2 ^ k - r) % 2 ^ k)
          z := decide (l = r)
          c := decide (r ≤ l)
          v := if s.cfg.cmpSetsV then overflows k (signed k l - signed k r) else s.sr.v } }

/-- R363, R517, R600: BIT sets `Z` from the AND with the accumulator and copies the operand's two top bits to `N` and `V`, but
the immediate form sets `Z` only; `BIT A` tests the accumulator itself. -/
def Obligations.BitTestSetsFlagsOnly : Prop :=
  (∀ (mk : Form), mk ∈ bitForms → ∀ (p : Pfx) (op : Word) (s : State) (m : Word), s.wellFormed = true →
    ready (mk p op) s = true → operand (mk p op) s = .ok m →
    let k := workWidth (p.extension .none) (opBits p) s.w
    let r := extended (opBits p) s.w (p.extension .none) m.toNat
    let z := decide ((s.a.toNat % 2 ^ k) &&& r = 0)
    exec (mk p op) s = .next
      { past (mk p op) s with
        sr := if p.nf then s.sr
          else if (mk p op).view.row.format = .imm then { s.sr with z := z }
          else { s.sr with n := decide (2 ^ (k - 1) ≤ r), v := r / 2 ^ (k - 2) % 2 == 1, z := z } }) ∧
  (∀ (p : Pfx) (s : State), ready (.bitA p) s = true →
    let l := s.a.toNat % 2 ^ opBits p
    exec (.bitA p) s = .next
      { past (.bitA p) s with
        sr := if p.nf then s.sr
          else { s.sr with n := decide (2 ^ (opBits p - 1) ≤ l), v := l / 2 ^ (opBits p - 2) % 2 == 1,
                           z := decide (l = 0) } })

/-- R365 to R374, R440, R458 to R472, R520 to R528: a read-modify-write instruction on memory reads its operand once, applies
the step once (on the QUICK page the count field plus 1 times, on a byte) and writes the result back. -/
def Obligations.MemoryStepsReadAndWriteOnce : Prop :=
  ∀ k quick mk, (k, quick, mk) ∈ memorySteps ++ quickMemorySteps →
    ∀ (p : Pfx) (op : Word) (cnt : BitVec 3) (s : State) (ea m : Word), s.wellFormed = true →
    let i := mk p op cnt
    let n := if quick then 8 else opBits p
    let q := steppedTimes k n (if quick then cnt.toNat + 1 else 1) (m.toNat, s.sr.c)
    let cells := upward ea (littleEndian (n / 8) q.1)
    ready i s = true → address i s = .ok ea → memRead s (s.denv p) ea (n / 8) = .ok m →
    writable s (s.denv p) cells = true →
    ∃ m', exec i s = .next { past i s with mem := m', sr := flagsStep k p.nf n q s.sr } ∧
      Stores s (s.denv p) cells m'

/-- R365 to R374, R440 to R457, R526 to R528: the same on the low `n` bits of a register, whose higher bits stay. -/
def Obligations.RegisterStepsReplaceTheLowBits : Prop :=
  ∀ k r quick mk, (k, r, quick, mk) ∈ registerSteps ++ quickRegisterSteps →
    ∀ (p : Pfx) (cnt : BitVec 3) (s : State),
    let i := mk p cnt
    let n := opBits p
    let q := steppedTimes k n (if quick then cnt.toNat + 1 else 1) ((s.reg r).toNat % 2 ^ n, s.sr.c)
    ready i s = true →
    exec i s = .next
      { (past i s).setReg r (word (replaced n (s.reg r).toNat q.1)) with sr := flagsStep k p.nf n q s.sr }

/-- R375, R376, R518, R519: TSB sets and TRB clears the accumulator's bits in memory; `Z` says whether they were all clear. -/
def Obligations.TestAndSetOrResetBits : Prop :=
  ∀ set mk, (set, mk) ∈ testForms → ∀ (p : Pfx) (op : Word) (s : State) (ea m : Word), s.wellFormed = true →
    let v := if set then m ||| s.a else m &&& ~~~s.a
    let cells := upward ea (littleEndian p.size.bytes v.toNat)
    ready (mk p op) s = true → address (mk p op) s = .ok ea → memRead s (s.denv p) ea p.size.bytes = .ok m →
    writable s (s.denv p) cells = true →
    ∃ m', exec (mk p op) s = .next
        { past (mk p op) s with
          mem := m'
          sr := if p.nf then s.sr else { s.sr with z := decide ((s.a &&& m).toNat % 2 ^ opBits p = 0) } } ∧
      Stores s (s.denv p) cells m'

/-- R380 to R387, and the barriers R532, R533: each flag instruction sets or clears its one flag, NOP and the barriers change
nothing; the pc moves past the instruction. The flag instructions and NOP are one byte and take no prefix bit. -/
def Obligations.FlagInstructionsNopAndBarriers : Prop :=
  (∀ g mk, (g, mk) ∈ flagForms → ∀ (p : Pfx) (op : Word) (s : State), permitted (mk p op) s = true →
    exec (mk p op) s = .next { past (mk p op) s with sr := g s.sr }) ∧
  (∀ mk ∈ barrierForms, ∀ (p : Pfx) (op : Word) (s : State), permitted (mk p op) s = true →
    exec (mk p op) s = .next (past (mk p op) s)) ∧
  (∀ code c, (code, c) ∈ ([(0x18, Instr.clc), (0x38, Instr.sec), (0x58, Instr.cli), (0x78, Instr.sei), (0xB8, Instr.clv),
      (0xD8, Instr.cld), (0xF8, Instr.sed), (0xEA, Instr.nop)] : List (Byte × (Pfx → Instr))) → ∀ (at_ : MvnfuCode) (p : Pfx),
    encode at_ (c .none) = [code] ∧
    ((c p).wellFormed = true ↔ p.offset = .none ∧ p.size = .b8 ∧ p.am = false ∧ p.um = false ∧
      p.extension .none = .none ∧ p.nf = false))

/-- R560 to R572: the sums on `E`, `B` and the current stack pointer replace its low bits and set `N`, `V`, `Z`, `C`; they
read neither the carry nor the decimal flag. -/
def Obligations.AddressSumsIgnoreCarryAndDecimal : Prop :=
  ∀ d sub mk, (d, sub, mk) ∈ addressSums → ∀ (p : Pfx) (op : Word) (s : State), s.wellFormed = true →
    ready (mk p op) s = true →
    let i := mk p op
    let imm := i.view.row.format = .imm
    let e : Extension := if imm then p.extension .none else .none
    let k := workWidth e (opBits p) s.w
    let old := match d with
      | some q => s.reg q
      | none => s.sp s.cur
    let l := old.toNat % 2 ^ k
    let r := extended (opBits p) s.w e ((if imm then op else s.a).toNat % 2 ^ opBits p)
    let t := if sub then (l + 2 ^ k - r) % 2 ^ k else (l + r) % 2 ^ k
    let c := if sub then decide (r ≤ l) else decide (2 ^ k ≤ l + r)
    let sr := flagsNVZC p.nf k t c (if sub then signed k l - signed k r else signed k l + signed k r) s.sr
    exec i s = .next (match d with
      | some q => { (past i s).setReg q (word (replaced k old.toNat t)) with sr := sr }
      | none => { (past i s).setSp s.cur (word (replaced k old.toNat t)) with sr := sr })

/-- R601, R602: INV negates the low `n` bits of the accumulator, or their extension over the whole register; EXT extends them,
and with LEeff 00 only sets the flags. -/
def Obligations.NegateAndExtendTheAccumulator : Prop :=
  ∀ (p : Pfx) (s : State), s.wellFormed = true →
    let n := opBits p
    let e := p.extension .none
    let k := workWidth e n s.w
    let m := extended n s.w e (s.a.toNat % 2 ^ n)
    (ready (.invA p) s = true →
      exec (.invA p) s = .next
        { past (.invA p) s with
          a := word (replaced k s.a.toNat ((2 ^ k - m) % 2 ^ k)), sr := flagsNZ p.nf k ((2 ^ k - m) % 2 ^ k) s.sr }) ∧
    (ready (.extA p) s = true →
      exec (.extA p) s = .next
        { past (.extA p) s with a := word (replaced k s.a.toNat m), sr := flagsNZ p.nf k m s.sr })

/-- R603 to R605: SWP exchanges the halves of the low `n` bits of the accumulator; BCN replaces them by the number of one bits
in them, or in the location at `E`. -/
def Obligations.SwapHalvesAndCountBits : Prop :=
  ∀ (p : Pfx) (s : State), s.wellFormed = true →
    let n := opBits p
    let v := s.a.toNat % 2 ^ n
    let h := v % 2 ^ (n / 2) * 2 ^ (n / 2) + v / 2 ^ (n / 2)
    let ones := fun x : Word => ((List.range n).filter fun j => x.getLsbD j).length
    (ready (.swpA p) s = true →
      exec (.swpA p) s = .next
        { past (.swpA p) s with a := word (replaced n s.a.toNat h), sr := flagsNZ p.nf n h s.sr }) ∧
    (ready (.bcnA p) s = true →
      exec (.bcnA p) s = .next
        { past (.bcnA p) s with a := word (replaced n s.a.toNat (ones s.a)), sr := flagsNZ p.nf n (ones s.a) s.sr }) ∧
    (∀ m, ready (.bcnE p) s = true → memRead s s.cur s.e p.size.bytes = .ok m →
      exec (.bcnE p) s = .next
        { past (.bcnE p) s with a := word (replaced n s.a.toNat (ones m)), sr := flagsNZ p.nf n (ones m) s.sr })

/-! ### Control transfer -/

/-- R400 to R409: a branch that is taken goes to the next instruction's address plus the sign-extended offset, modulo `2^W`;
one that is not goes to the next instruction; nothing else changes. -/
def Obligations.BranchesAreRelativeToTheNextInstruction : Prop :=
  ∀ g mk, (g, mk) ∈ branches → ∀ (p : Pfx) (op : Word) (s : State), permitted (mk p op) s = true →
    let k := opBits p
    let next := past (mk p op) s
    exec (mk p op) s = .next
      { next with
        pc := if g s.sr then wrap s.w (next.pc.toNat + signed k (op.toNat % 2 ^ k)) else next.pc }

/-- R410, R535, R536: JMP goes to its effective address, LEA puts it in `E` with `N` and `Z` at width `W`, PEA pushes it,
`W/8` bytes. -/
def Obligations.EffectiveAddressIsJumpedToLoadedOrPushed : Prop :=
  (∀ mk ∈ jumps, ∀ (p : Pfx) (op : Word) (s : State) (ea : Word), permitted (mk p op) s = true →
    address (mk p op) s = .ok ea → exec (mk p op) s = .next ((past (mk p op) s).setPc ea)) ∧
  (∀ mk ∈ leaForms, ∀ (p : Pfx) (op : Word) (s : State) (ea : Word), permitted (mk p op) s = true →
    address (mk p op) s = .ok ea →
    exec (mk p op) s = .next { past (mk p op) s with e := ea, sr := flagsNZ p.nf s.w ea.toNat s.sr }) ∧
  (∀ mk ∈ peaForms, ∀ (p : Pfx) (op : Word) (s : State) (ea : Word), s.wellFormed = true →
    let cells := downward (s.sp (s.denv p)) (bigEndian s.wBytes ea.toNat)
    permitted (mk p op) s = true → address (mk p op) s = .ok ea → writable s (s.denv p) cells = true →
    ∃ m, exec (mk p op) s = .next
        { (past (mk p op) s).setSp (s.denv p) (s.sp (s.denv p) - word s.wBytes) with mem := m } ∧
      Stores s (s.denv p) cells m)

/-- R411 to R413: JSR and BSR push the address of their last byte, 2, 4 or 8 bytes as RS says, on the stack of the data
environment, and go to their target, which JSR finds before the push. -/
def Obligations.CallsPushTheReturnAddress : Prop :=
  ∀ (mk : Form) (p : Pfx) (op : Word) (s : State) (t : Word), s.wellFormed = true →
    let i := mk p op
    let k := if p.size = .b8 then 2 else p.size.bytes
    let bits := 8 * i.view.row.format.operandBytes p
    let cells := downward (s.sp (s.denv p)) (bigEndian k ((past i s).pc - 1).toNat)
    ready i s = true → writable s (s.denv p) cells = true →
    (mk ∈ calls ∧ address i s = .ok t ∨
      mk ∈ relativeCalls ∧ t = wrap s.w ((past i s).pc.toNat + signed bits (op.toNat % 2 ^ bits))) →
    ∃ m, exec i s = .next
        { ((past i s).setSp (s.denv p) (s.sp (s.denv p) - word k)).setPc t with mem := m } ∧
      Stores s (s.denv p) cells m

/-- R411, R414: RTS pulls 2, 4 or 8 bytes as RS says from the current stack, widens them as RTS_EXT says and goes to the
address after. -/
def Obligations.ReturnGoesPastThePulledAddress : Prop :=
  ∀ (p : Pfx) (s : State) (ra : Word),
    let k := if p.size = .b8 then 2 else p.size.bytes
    ready (.rts p) s = true → memRead s s.cur (s.sp s.cur + 1) k = .ok ra →
    exec (.rts p) s = .next
      { (past (.rts p) s).setSp s.cur (s.sp s.cur + word k) with
        pc := wrap s.w ((match s.cfg.rtsExt with
          | .sign => signed (8 * k) ra.toNat
          | .zero => (ra.toNat : Int)) + 1) }

/-! ### Load linked, store conditional, block instructions -/

/-- R530, R531: LLA loads `A` from the location at `E` and reserves it; SCA stores and clears `V` exactly if the reservation
names the same environment, address and size, else it sets `V` and stores nothing; either way the reservation is gone. -/
def Obligations.StoreConditionalNeedsTheReservation : Prop :=
  ∀ (p : Pfx) (s : State), s.wellFormed = true →
    let mine : Option Link := some { env := s.denv p, addr := s.e, nb := p.size.bytes }
    let cells := upward s.e (littleEndian p.size.bytes s.a.toNat)
    (∀ m, ready (.llaE p) s = true → memRead s (s.denv p) s.e p.size.bytes = .ok m →
      exec (.llaE p) s = .next
        { past (.llaE p) s with
          a := word (loaded (opBits p) s.w (p.extension .zero) s.a.toNat m.toNat)
          sr := flagsNZ p.nf (opBits p) m.toNat s.sr
          link := mine }) ∧
    (ready (.scaE p) s = true → s.link = mine → writable s (s.denv p) cells = true →
      ∃ m, exec (.scaE p) s = .next { past (.scaE p) s with mem := m, sr := { s.sr with v := false }, link := none } ∧
        Stores s (s.denv p) cells m) ∧
    (ready (.scaE p) s = true → s.link ≠ mine →
      exec (.scaE p) s = .next { past (.scaE p) s with sr := { s.sr with v := true }, link := none })

/-- R540 to R542, R632 to R635: one step of a block move with a count that is not 0 copies the byte at `X` to `Y`, moves both
by one, counts down, and stays at the instruction until the count is 0; a count of 0 only moves past it. The grain of a step is
the model's reading (log entry 21). -/
def Obligations.BlockMovesCopyOneByteAStep : Prop :=
  ∀ src dst up mk, (src, dst, up, mk) ∈ moveForms → ∀ (p : Pfx) (op : Word) (s : State) (v : Word), s.wellFormed = true →
    permitted (mk p op) s = true →
    let i := mk p op
    let d : Int := if up then 1 else -1
    let cells := upward s.y (littleEndian 1 v.toNat)
    (s.a = 0 → exec i s = .next (past i s)) ∧
    (s.a ≠ 0 → memRead s (src s) s.x 1 = .ok v → writable s (dst s) cells = true →
      ∃ m, exec i s = .next
          { past i s with
            a := s.a - 1
            x := wrap s.w (s.x.toNat + d)
            y := wrap s.w (s.y.toNat + d)
            pc := if s.a = 1 then (past i s).pc else s.pc
            mem := m } ∧
        Stores s (dst s) cells m)

/-- R540, R543, R630: one step of FIL writes the low `nb` bytes of `Y` at `X` and steps `X` over them; `A` counts elements, or
bytes under FIL_COUNT_UNIT. FILU writes one byte in the user environment. The grain of a step is the model's reading (log
entry 21). -/
def Obligations.FillsWriteOneElementAStep : Prop :=
  ∀ (p : Pfx) (s : State), s.wellFormed = true →
    let nb := p.size.bytes
    let dec := if s.cfg.filUnit = .bytes then nb else 1
    (ready (.fil p) s = true → s.a = 0 → exec (.fil p) s = .next (past (.fil p) s)) ∧
    (ready (.fil p) s = true → s.a ≠ 0 → (s.cfg.filUnit = .bytes → s.a.toNat % nb = 0) →
      writable s s.cur (upward s.x (littleEndian nb s.y.toNat)) = true →
      ∃ m, exec (.fil p) s = .next
          { past (.fil p) s with
            a := word (s.a.toNat - dec)
            x := wrap s.w (s.x.toNat + nb)
            pc := if s.a.toNat = dec then (past (.fil p) s).pc else s.pc
            mem := m } ∧
        Stores s s.cur (upward s.x (littleEndian nb s.y.toNat)) m) ∧
    (permitted (.filu p) s = true → s.a = 0 → exec (.filu p) s = .next (past (.filu p) s)) ∧
    (permitted (.filu p) s = true → s.a ≠ 0 → writable s .user (upward s.x (littleEndian 1 s.y.toNat)) = true →
      ∃ m, exec (.filu p) s = .next
          { past (.filu p) s with
            a := s.a - 1
            x := wrap s.w (s.x.toNat + 1)
            pc := if s.a = 1 then (past (.filu p) s).pc else s.pc
            mem := m } ∧
        Stores s .user (upward s.x (littleEndian 1 s.y.toNat)) m)

/-! ### System instructions -/

/-- R50 to R65, R620, R622: what LCR reads from each configuration register, with `N` and `Z` at width `W`; BCR tests the same
value against `A` as BIT does. `ST_TMV` is read where CR_TMV puts it (R47). NCONT modulo 256 is the model's reading (log
entry 24), and what `$15` reads without HYP its choice (log entry 28). -/
def Obligations.ConfigurationRegistersReadAsListed : Prop :=
  ∀ (p : Pfx) (op : Word) (s : State) (v : Nat), s.wellFormed = true →
    let r : Byte := BitVec.ofNat 8 op.toNat
    ((r, v) ∈ ([(0x00, 0x00AF), (0x01, s.cfg.myCore % 2 ^ s.w), (0x02, s.cfg.ncore % 2 ^ s.w), (0x03, s.actCore.toNat),
        (0x10, 256 * extendedNumber s.isHyp s.prevHyp s.sr.sf + statusNumber s.sr false false), (0x11, s.imr.toNat),
        (0x12, s.isr), (0x13, s.eim.toNat), (0x14, s.sph.toNat), (0x15, s.spu.toNat), (0x16, s.mh.toNat),
        (0x17, 256 * s.muUsel.toNat + s.muCode.toNat), (0x20, s.iv.toNat), (0x21, s.av.toNat), (0x22, s.tv.toNat),
        (0x30, s.cfg.ncont % 256)] : List (Byte × Nat)) ∨ s.cfg.crTmv = some r ∧ v = s.tmv.toNat) →
    (permitted (.lcr p op) s = true →
      exec (.lcr p op) s = .next { past (.lcr p op) s with a := word v, sr := flagsNZ false s.w v s.sr }) ∧
    (permitted (.bcr p op) s = true →
      exec (.bcr p op) s = .next
        { past (.bcr p op) s with
          sr := { s.sr with n := decide (2 ^ (s.w - 1) ≤ v), v := v / 2 ^ (s.w - 2) % 2 == 1,
                            z := decide (s.a.toNat &&& v = 0) } })

/-- R53, R55, R60 to R64, R66, R71, R621: what SCR does to each writable configuration register; the first write of a vector
base switches its table on. The core's own bit of MC_ACTCORE stays; that the bits of absent cores stay 0 is the model's
reading (log entry 12), and so is that a 0 in the bit of core 0 stays 0 (log entry 29). A write of a read-only register is
refused. -/
def Obligations.ConfigurationRegistersAreWrittenAsListed : Prop :=
  ∀ (p : Pfx) (op : Word) (s : State), s.wellFormed = true → permitted (.scr p op) s = true →
    let r : Byte := BitVec.ofNat 8 op.toNat
    let u := past (.scr p op) s
    (r = 0x11 → s.a.toNat % 256 < 8 → exec (.scr p op) s = .next { u with imr := BitVec.ofNat 3 s.a.toNat }) ∧
    (r = 0x16 → exec (.scr p op) s = .next { u with mh := BitVec.ofNat 8 s.a.toNat }) ∧
    (r = 0x17 → s.a.toNat % 65536 < 2048 →
      exec (.scr p op) s = .next
        { u with muCode := BitVec.ofNat 8 s.a.toNat, muUsel := BitVec.ofNat 3 (s.a.toNat / 256) }) ∧
    (r = 0x20 → s.a.toNat % 256 = 0 → exec (.scr p op) s = .next { u with iv := s.a, ivAct := true }) ∧
    (r = 0x21 → s.a.toNat % 256 = 0 → exec (.scr p op) s = .next { u with av := s.a, avAct := true }) ∧
    (r = 0x22 → s.a.toNat % 512 = 0 → exec (.scr p op) s = .next { u with tv := s.a, tvAct := true }) ∧
    (s.cfg.crTmv = some r → exec (.scr p op) s = .next { u with tmv := s.a }) ∧
    (r = 0x03 → ∃ v, exec (.scr p op) s = .next { u with actCore := v } ∧
      ∀ j, v.getLsbD j =
        if j = s.cfg.myCore then s.actCore.getLsbD j
        else decide (j < s.cfg.ncore) && s.a.getLsbD j && (s.actCore.getLsbD j || decide (j ≠ 0))) ∧
    (r ∈ ([0x00, 0x01, 0x02, 0x10, 0x12, 0x13, 0x14, 0x15, 0x30] : List Byte) →
      exec (.scr p op) s = .refused (.readOnlyConfigRegister r))

/-- R67 to R70, R623, R624: SENV fills one container set from `A`, `X` and `Y`, or from three words at `E` read in the current
environment; the other sets stay. Without an MMU, or from NCONT on, it is refused. -/
def Obligations.SenvFillsOneContainer : Prop :=
  ∀ (p : Pfx) (op : Word) (s : State) (m c o : Word), s.wellFormed = true →
    let cc := op.toNat % 256
    (permitted (.senv p op) s = true → s.cfg.mmu = true → cc < s.cfg.ncont →
      exec (.senv p op) s = .next
        { past (.senv p op) s with cont := s.cont.set cc { mask := s.a, cmp := s.x, off := s.y } }) ∧
    (permitted (.senvE p op) s = true → s.cfg.mmu = true → cc < s.cfg.ncont →
      memRead s s.cur s.e s.wBytes = .ok m → memRead s s.cur (s.e + word s.wBytes) s.wBytes = .ok c →
      memRead s s.cur (s.e + word (2 * s.wBytes)) s.wBytes = .ok o →
      exec (.senvE p op) s = .next
        { past (.senvE p op) s with cont := s.cont.set cc { mask := m, cmp := c, off := o } }) ∧
    (permitted (.senv p op) s = true → s.cfg.mmu = false ∨ s.cfg.ncont ≤ cc →
      exec (.senv p op) s = .refused (.containerNumber cc) ∧ exec (.senvE p op) s = .refused (.containerNumber cc))

/-- R625, R626: JPU leaves hypervisor mode for its target, found with the hypervisor's offset registers; the indirect form
reads its pointer in the user environment. `P`, `SF`, `EIM` and the flags stay. Which operands SHORT_ADDR_EXT widens is the
model's reading (log entry 14). -/
def Obligations.JpuEntersUserMode : Prop :=
  ∀ (p : Pfx) (op : Word) (s : State) (t : Word), s.wellFormed = true → s.cfg.hyp = true →
    let user := fun i : Instr => { (past i s).setPc t with sr := { s.sr with h := false } }
    (permitted (.jpuAbs p op) s = true → address (.jpuAbs p op) s = .ok t →
      exec (.jpuAbs p op) s = .next (user (.jpuAbs p op))) ∧
    (permitted (.jpuIndAbs p op) s = true →
      readPointer .user .indAbs p
        (operandAddress .indAbs p op (past (.jpuIndAbs p op) s) + offsetValue p (past (.jpuIndAbs p op) s)) s = .ok t →
      exec (.jpuIndAbs p op) s = .next (user (.jpuIndAbs p op)))

/-- R627, R636, R637: CLEIM reloads `EIM` from `IMR`; WAI waits; STP stops and clears the core's own bit of MC_ACTCORE. -/
def Obligations.CleimWaiAndStp : Prop :=
  ∀ (p : Pfx) (s : State),
    (permitted (.cleim p) s = true → exec (.cleim p) s = .next { past (.cleim p) s with eim := s.imr }) ∧
    (permitted (.wai p) s = true → exec (.wai p) s = .next { past (.wai p) s with run := .waiting }) ∧
    (permitted (.stp p) s = true →
      ∃ v, exec (.stp p) s = .next { past (.stp p) s with run := .stopped, actCore := v } ∧
        ∀ j, v.getLsbD j = (s.actCore.getLsbD j && decide (j ≠ s.cfg.myCore)))

/-! ### What is refused, and privilege -/

/-- R250, R358, R628, R701: refused are an operation wider than `W`, ADC and SBC in decimal mode, UM and JPU without the
hypervisor option, and SMMU in hypervisor mode. That the width is checked before the operand is read is the model's reading
(log entry 19). -/
def Obligations.RefusalsTheSpecOrders : Prop :=
  (∀ (i : Instr) (s : State), i.view.row.takes.rs = true → i.view.row.format ≠ .rel → permitted i s = true →
    s.w < opBits i.view.pfx → exec i s = .refused .widthTooLarge) ∧
  (∀ mk ∈ addForms ++ subtractForms, ∀ (p : Pfx) (op : Word) (s : State), ready (mk p op) s = true → s.sr.d = true →
    exec (mk p op) s = .refused .decimalArithmetic) ∧
  (∀ (i : Instr) (s : State), s.cfg.hyp = false → i.view.pfx.um = true → exec i s = .refused .userSelectorWithoutHyp) ∧
  (∀ (p : Pfx) (op : Word) (s : State), s.cfg.hyp = false → p.um = false →
    exec (.jpuAbs p op) s = .refused .jpuWithoutHyp ∧ exec (.jpuIndAbs p op) s = .refused .jpuWithoutHyp) ∧
  (∀ (p : Pfx) (s : State), permitted (.smmu p) s = true → exec (.smmu p) s = .refused .mmuBaseUndefined)

/-- R619, R703: in user mode every instruction of the SYS page, and every instruction with UM set, takes the PRIVOP abort
instead of its effect. -/
def Obligations.PrivilegedInstructionsTakePrivopInUserMode : Prop :=
  ∀ (i : Instr) (s : State), s.isHyp = false → i.view.row.page = .sys ∨ i.view.pfx.um = true →
    exec i s = answer (enterAbort s (past i s).pc .privop)

/-- R704: whatever an instruction executed in user mode does, an exception's entry included, it leaves the hypervisor's
registers, the containers and the parameters as they were, changes only memory that a user write reaches, and enters
hypervisor mode only with `P` clear and no reservation. -/
def Obligations.UserModeCannotReachTheHypervisor : Prop :=
  ∀ (i : Instr) (s t : State), s.wellFormed = true → s.isHyp = false → exec i s = .next t →
    t.cfg = s.cfg ∧ t.sph = s.sph ∧ t.mh = s.mh ∧ t.muCode = s.muCode ∧ t.muUsel = s.muUsel ∧ t.cont = s.cont ∧
    t.imr = s.imr ∧ t.eim = s.eim ∧ t.iv = s.iv ∧ t.av = s.av ∧ t.tv = s.tv ∧ t.tmv = s.tmv ∧ t.ivAct = s.ivAct ∧
    t.avAct = s.avAct ∧ t.tvAct = s.tvAct ∧ t.actCore = s.actCore ∧ t.run = s.run ∧ t.nmiPend = s.nmiPend ∧
    (∀ q, t.mem.byteAt q ≠ s.mem.byteAt q → s.userWritable q) ∧
    (t.isHyp = true → t.sr.p = false ∧ t.link = none)

/-! ### Exceptions -/

/-- R107, R128, R663, R664, R666: an instruction that meets an abort on an access takes it from the state before the
instruction, with exactly the bytes of memory written that it wrote before. The accesses: the operand of a load, ORA, AND,
EOR, ADC, SBC (outside decimal mode), compare or BIT; the pointer of a store, JSR, JMP, LEA, PEA; the bytes of a store; the
read and then the write of a read-modify-write instruction, TSB or TRB; pushes and the pushes of PHP, PEA, JSR, BSR; pulls
and those of PLP, RTS, RTI, RTU; LLA, SCA, BCN; the read and then the write of a block step; SENV; JPU (abs), whose abort is
taken with `H` clear (R626); and the fetch of one of the instruction's bytes. There PRIVOP comes before a byte after the
opcode, and under ABORT_PC = next instruction the stacked address is the model's choice (log entries 7 and 8). -/
def Obligations.LoadsAndStoresTakeTheAbortOfTheirAccess : Prop :=
  ∀ (p : Pfx) (op : Word) (s : State), s.wellFormed = true →
    let nb := p.size.bytes
    let env := s.denv p
    let sp := s.sp env
    let ret := if p.size = .b8 then 2 else nb
    -- loads and computing instructions: the operand
    (∀ mk ∈ loads.map (·.2) ++ logicForms.map (·.2) ++ compareForms.map (·.2) ++ bitForms, ready (mk p op) s = true →
      takesReadAbort (mk p op) s (operand (mk p op) s)) ∧
    (∀ mk ∈ addForms ++ subtractForms, ready (mk p op) s = true → s.sr.d = false →
      takesReadAbort (mk p op) s (operand (mk p op) s)) ∧
    -- the pointer behind an effective address
    (∀ mk ∈ stores.map (·.2) ++ calls, ready (mk p op) s = true → takesReadAbort (mk p op) s (address (mk p op) s)) ∧
    (∀ mk ∈ jumps ++ leaForms ++ peaForms, permitted (mk p op) s = true →
      takesReadAbort (mk p op) s (address (mk p op) s)) ∧
    -- stores and read-modify-write instructions
    (∀ r mk, (r, mk) ∈ stores → ∀ ea, ready (mk p op) s = true → address (mk p op) s = .ok ea →
      let v := match r with
        | none => 0
        | some q => (s.reg q).toNat
      takesWriteAbort (mk p op) s env (upward ea (littleEndian nb v))) ∧
    (∀ k quick mk, (k, quick, mk) ∈ memorySteps ++ quickMemorySteps → ∀ (cnt : BitVec 3) (ea : Word),
      let i := mk p op cnt
      let n := if quick then 8 else opBits p
      ready i s = true → address i s = .ok ea →
      takesReadAbort i s (memRead s env ea (n / 8)) ∧
      ∀ m, memRead s env ea (n / 8) = .ok m → takesWriteAbort i s env (upward ea (littleEndian (n / 8)
        (steppedTimes k n (if quick then cnt.toNat + 1 else 1) (m.toNat, s.sr.c)).1))) ∧
    (∀ set mk, (set, mk) ∈ testForms → ∀ ea, ready (mk p op) s = true → address (mk p op) s = .ok ea →
      takesReadAbort (mk p op) s (memRead s env ea nb) ∧
      ∀ m, memRead s env ea nb = .ok m → takesWriteAbort (mk p op) s env
        (upward ea (littleEndian nb (if set then m ||| s.a else m &&& ~~~s.a).toNat))) ∧
    -- pushes and calls
    (∀ whole r mk, (whole, r, mk) ∈ pushes → ready (mk p op) s = true →
      takesWriteAbort (mk p op) s env (downward sp (bigEndian (if whole then s.wBytes else nb) (s.reg r).toNat))) ∧
    (permitted (.prb p) s = true → takesWriteAbort (.prb p) s env (downward sp (bigEndian s.wBytes s.b.toNat))) ∧
    (permitted (.php p) s = true →
      takesWriteAbort (.php p) s s.cur (downward (s.sp s.cur) [BitVec.ofNat 8 (statusNumber s.sr true true)])) ∧
    (∀ mk ∈ peaForms, ∀ ea, permitted (mk p op) s = true → address (mk p op) s = .ok ea →
      takesWriteAbort (mk p op) s env (downward sp (bigEndian s.wBytes ea.toNat))) ∧
    (∀ mk ∈ calls ++ relativeCalls, ready (mk p op) s = true →
      (mk ∈ relativeCalls ∨ ∃ t, address (mk p op) s = .ok t) →
      takesWriteAbort (mk p op) s env (downward sp (bigEndian ret ((past (mk p op) s).pc - 1).toNat))) ∧
    -- pulls and returns
    (∀ whole r mk, (whole, r, mk) ∈ pulls → ready (mk p op) s = true →
      takesReadAbort (mk p op) s (memRead s env (sp + 1) (if whole then s.wBytes else nb))) ∧
    (permitted (.plp p) s = true → takesReadAbort (.plp p) s (memRead s s.cur (s.sp s.cur + 1) 1)) ∧
    (ready (.rts p) s = true → takesReadAbort (.rts p) s (memRead s s.cur (s.sp s.cur + 1) ret)) ∧
    (permitted (.rti p) s = true →
      let at_ := fun j k => memRead s (pullsFrom s) (s.sp (pullsFrom s) + word j) k
      takesReadAbort (.rti p) s (at_ 1 1) ∧
      ∀ st, at_ 1 1 = .ok st →
        if st.getLsbD 5 then takesReadAbort (.rti p) s (at_ 2 2)
        else takesReadAbort (.rti p) s (at_ 2 1) ∧
          ∀ x, at_ 2 1 = .ok x → framePulled s x → takesReadAbort (.rti p) s (at_ 3 (announcedBytes x))) ∧
    (permitted (.rtu p) s = true →
      let at_ := fun j k => memRead s (pullsFrom s) (s.sp (pullsFrom s) + word j) k
      takesReadAbort (.rtu p) s (at_ 1 1) ∧
      ∀ x, at_ 1 1 = .ok x → framePulled s x → takesReadAbort (.rtu p) s (at_ 2 (announcedBytes x))) ∧
    -- the location at `E`
    (ready (.llaE p) s = true → takesReadAbort (.llaE p) s (memRead s env s.e nb)) ∧
    (ready (.scaE p) s = true → s.link = some { env := env, addr := s.e, nb := nb } →
      takesWriteAbort (.scaE p) s env (upward s.e (littleEndian nb s.a.toNat))) ∧
    (ready (.bcnE p) s = true → takesReadAbort (.bcnE p) s (memRead s s.cur s.e nb)) ∧
    -- block steps
    (∀ src dst up mk, (src, dst, up, mk) ∈ moveForms → permitted (mk p op) s = true → s.a ≠ 0 →
      takesReadAbort (mk p op) s (memRead s (src s) s.x 1) ∧
      ∀ v, memRead s (src s) s.x 1 = .ok v →
        takesWriteAbort (mk p op) s (dst s) (upward s.y (littleEndian 1 v.toNat))) ∧
    (ready (.fil p) s = true → s.a ≠ 0 → (s.cfg.filUnit = .bytes → s.a.toNat % nb = 0) →
      takesWriteAbort (.fil p) s s.cur (upward s.x (littleEndian nb s.y.toNat))) ∧
    (permitted (.filu p) s = true → s.a ≠ 0 →
      takesWriteAbort (.filu p) s .user (upward s.x (littleEndian 1 s.y.toNat))) ∧
    -- system instructions
    (permitted (.senvE p op) s = true → s.cfg.mmu = true → op.toNat % 256 < s.cfg.ncont →
      ∀ j, j < 3 → (∀ l, l < j → readable s s.cur (s.e + word (l * s.wBytes)) s.wBytes = true) →
        takesReadAbort (.senvE p op) s (memRead s s.cur (s.e + word (j * s.wBytes)) s.wBytes)) ∧
    (permitted (.jpuIndAbs p op) s = true → s.cfg.hyp = true → ∀ k m,
      readPointer .user .indAbs p
        (operandAddress .indAbs p op (past (.jpuIndAbs p op) s) + offsetValue p (past (.jpuIndAbs p op) s)) s =
          .error { stop := .abort k, mem := m } →
      exec (.jpuIndAbs p op) s = abortOf (.jpuIndAbs p op) { s with sr := { s.sr with h := false } } k) ∧
    -- the fetch
    (atInstruction s → ∀ (i : Instr) (j : Nat) (k : AbortKind), i.wellFormed = true → j < (encode s.cfg.mvnfuAt i).length →
      (∀ l b, l < j → (encode s.cfg.mvnfuAt i)[l]? = some b → fetches s l b) →
      readByte s s.cur (low s.w (s.pc + word j)) .fetch = .error (.abort k) →
      step s =
        if j + i.view.row.format.operandBytes i.view.pfx < (encode s.cfg.mvnfuAt i).length then
          answer (enterAbort s (s.pc + word j) k)
        else if s.isHyp = false ∧ (i.view.row.page = .sys ∨ i.view.pfx.um = true) then abortOf i s .privop
        else abortOf i s k)

/-- R660, R664 to R666, R680, R682: taking an abort pushes the address (of the instruction, or after it under ABORT_PC), the
extended status byte and the status byte with bits 5 and 4 clear on the stack of the interrupted code; the machine is then
in hypervisor mode at the abort's vector. Nothing else changes. -/
def Obligations.AbortEntryStacksAndEntersHypervisorMode : Prop :=
  ∀ (s : State) (next : Word) (k : AbortKind) (offset : Nat), s.wellFormed = true → s.fits next = true →
    (k, offset) ∈ [(AbortKind.nomem, 0xFA), (.wprot, 0xF8), (.noexec, 0xF6), (.privrti, 0xF4), (.privop, 0xF2),
      (.maxtrap, 0xF0), (.privmem, 0xEE)] →
    let ret := match s.cfg.abortPc with
      | .instructionStart => s.pc.toNat
      | .nextInstruction => next.toNat
    let frame := extendedFrame s ret ++ [BitVec.ofNat 8 (statusNumber s.sr false false)]
    let vector := if s.avAct then s.av + word offset else wrap s.w (-8)
    writable s s.cur (downward (s.sp s.cur) frame) = true → readable s .hyp vector 2 = true →
    ∃ m v, Stores s s.cur (downward (s.sp s.cur) frame) m ∧ memRead { s with mem := m } .hyp vector 2 = .ok v ∧
      enterAbort s next k = .ok
        { entered s ret frame m with pc := if s.avAct then inBlock s.av v else signedTarget s v }

/-- R676, R680, R696: an interrupt with `IVACT = 1` pushes the extended frame with a status byte, enters hypervisor mode,
lowers `EIM` below the interrupt's number, clears the NMI request if it was the NMI, and goes to its vector. -/
def Obligations.VectoredInterruptEntry : Prop :=
  ∀ (s : State) (k : Nat), s.wellFormed = true → k ≤ 7 → s.ivAct = true →
    ¬ (k ≠ 0 ∧ s.isHyp = false ∧ s.muUsel.toNat = k) →
    let frame := extendedFrame s s.pc.toNat ++ [BitVec.ofNat 8 (statusNumber s.sr false false)]
    let vector := s.iv + word (2 * k)
    writable s s.cur (downward (s.sp s.cur) frame) = true → readable s .hyp vector 2 = true →
    ∃ m v, Stores s s.cur (downward (s.sp s.cur) frame) m ∧ memRead { s with mem := m } .hyp vector 2 = .ok v ∧
      enterInterrupt s k = .ok
        { entered s s.pc.toNat frame m with
          pc := inBlock s.iv v
          eim := BitVec.ofNat 3 (k - 1)
          nmiPend := s.nmiPend && decide (k ≠ 0)
          run := .running }

/-- R676, R684, R686: without `IVACT` an interrupt pushes the 6502 frame on the current stack, sets `I`, lowers `EIM` and stays
in its mode; a line the user selector names, in user mode, does the same with the user's own vector and leaves `EIM`. -/
def Obligations.CompatibleAndUserInterruptEntry : Prop :=
  ∀ (s : State) (k : Nat), s.wellFormed = true → k ≤ 7 →
    let cells := downward (s.sp s.cur) (compatFrame s s.pc.toNat false)
    let user := k ≠ 0 ∧ s.isHyp = false ∧ s.muUsel.toNat = k
    let vector := wrap s.w (if k = 0 then -6 else -2)
    writable s s.cur cells = true →
    (¬ user → s.ivAct = false → readable s s.cur vector 2 = true →
      ∃ m v, Stores s s.cur cells m ∧ memRead { s with mem := m } s.cur vector 2 = .ok v ∧
        enterInterrupt s k = .ok
          { enteredCompat s (compatFrame s s.pc.toNat false) m with
            pc := signedTarget s v
            eim := BitVec.ofNat 3 (k - 1)
            nmiPend := s.nmiPend && decide (k ≠ 0)
            run := .running }) ∧
    (user → readable s .user 0xFFFE 2 = true →
      ∃ m v, Stores s s.cur cells m ∧ memRead { s with mem := m } .user 0xFFFE 2 = .ok v ∧
        enterInterrupt s k = .ok
          { enteredCompat s (compatFrame s s.pc.toNat false) m with pc := v, run := .running })

/-- R687, R688: a trap number below `TMV` pushes the address of the operand byte and the extended status byte, no status
byte, and goes to the trap's vector in hypervisor mode with the flags unchanged; any other takes the MAXTRAP abort. -/
def Obligations.TrapEntryOrMaxtrap : Prop :=
  ∀ (p : Pfx) (op : Word) (s : State), s.wellFormed = true → permitted (.trp p op) s = true →
    let t := op.toNat % 256
    let ret := (wrap s.w ((past (.trp p op) s).pc.toNat - 1)).toNat
    let cells := downward (s.sp s.cur) (extendedFrame s ret)
    let vector := if s.tvAct then s.tv + word (2 * t) else wrap s.w (-10)
    (t < s.tmv.toNat → writable s s.cur cells = true → readable s .hyp vector 2 = true →
      ∃ m v, Stores s s.cur cells m ∧ memRead { s with mem := m } .hyp vector 2 = .ok v ∧
        exec (.trp p op) s = .next
          { entered s ret (extendedFrame s ret) m with
            pc := if s.tvAct then inBlock s.tv v else signedTarget s v }) ∧
    (s.tmv.toNat ≤ t → exec (.trp p op) s = answer (enterAbort s (past (.trp p op) s).pc .maxtrap))

/-- R689: BRK stacks the address of its opcode plus 2 with `B` set, in the extended frame under `IVACT` and else in the 6502
frame, and goes to the abort table's last vector under `AVACT` and else to the shared vector. That the shared vector is read in the
environment which is current after the frame is the model's reading (log entry 15). -/
def Obligations.BreakEntry : Prop :=
  ∀ (p : Pfx) (s : State), s.wellFormed = true → permitted (.brk p) s = true →
    let ret := (wrap s.w ((past (.brk p) s).pc.toNat + 1)).toNat
    let frame := if s.ivAct then extendedFrame s ret ++ [BitVec.ofNat 8 (statusNumber s.sr false true)]
      else compatFrame s ret true
    let cells := downward (s.sp s.cur) frame
    let env := if s.avAct ∨ s.ivAct then .hyp else s.cur
    let vector := if s.avAct then s.av + 0xFE else wrap s.w (-2)
    writable s s.cur cells = true → readable s env vector 2 = true →
    ∃ m v, Stores s s.cur cells m ∧ memRead { s with mem := m } env vector 2 = .ok v ∧
      exec (.brk p) s = .next
        { (if s.ivAct then entered s ret frame m else enteredCompat s frame m) with
          pc := if s.avAct then inBlock s.av v else signedTarget s v }

/-- R677, R690, R692, R693: RTI pulls the status byte, and by its bit 5 either the 6502 frame's two address bytes or the
extended status byte and the address it announces; the flags come from the status byte, the mode from an extended frame,
`P` is cleared and `EIM` kept in user mode, and in hypervisor mode `EIM` is reloaded from `IMR`. A frame size the core does
not have is refused, and `H` set in a frame on the user stack is a PRIVRTI abort. -/
def Obligations.ReturnFromInterruptRestores : Prop :=
  ∀ (p : Pfx) (s : State) (st x a : Word), s.wellFormed = true → permitted (.rti p) s = true →
    let env := pullsFrom s
    let sp := s.sp env
    let flags := { s.sr with n := st.getLsbD 7, v := st.getLsbD 6, d := st.getLsbD 3, i := st.getLsbD 2,
                             z := st.getLsbD 1, c := st.getLsbD 0 }
    let eim := if s.isHyp then s.imr else s.eim
    memRead s env (sp + 1) 1 = .ok st →
    (st.getLsbD 5 = true → memRead s env (sp + 2) 2 = .ok a →
      exec (.rti p) s = .next
        { (past (.rti p) s).setSp env (sp + 3) with
          pc := signedTarget s a
          sr := { flags with p := s.isHyp && s.prevHyp }
          eim := eim
          link := none }) ∧
    (st.getLsbD 5 = false → memRead s env (sp + 2) 1 = .ok x →
      let sf := BitVec.ofNat 2 x.toNat
      let k := if sf = 1 then 2 else if sf = 2 then 4 else 8
      (sf = 0 ∨ s.wBytes < k → exec (.rti p) s = .refused .reservedFrameSize) ∧
      (sf ≠ 0 → k ≤ s.wBytes → env = .user → x.getLsbD 3 = true →
        exec (.rti p) s = answer (enterAbort s (past (.rti p) s).pc .privrti)) ∧
      (sf ≠ 0 → k ≤ s.wBytes → ¬ (env = .user ∧ x.getLsbD 3 = true) → memRead s env (sp + 3) k = .ok a →
        exec (.rti p) s = .next
          { (past (.rti p) s).setSp env (sp + 2 + word k) with
            pc := wrap s.w (signed (8 * k) a.toNat)
            sr := { flags with
              sf := sf
              h := (env = .hyp && x.getLsbD 3) || !s.cfg.hyp
              p := (env = .hyp && x.getLsbD 2 && s.isHyp) || !s.cfg.hyp }
            eim := eim
            link := none }))

/-- R629, R690, R691, R694: RTU pulls the extended status byte and the address it announces, takes the mode from it (user mode
from the user stack), keeps the flags and `EIM`, and goes to the address after. A frame size the core does not have is
refused, and `H` set in a frame on the user stack is a PRIVRTI abort. -/
def Obligations.ReturnToUserRestores : Prop :=
  ∀ (p : Pfx) (s : State) (x a : Word), s.wellFormed = true → permitted (.rtu p) s = true →
    let env := pullsFrom s
    let sp := s.sp env
    let sf := BitVec.ofNat 2 x.toNat
    let k := if sf = 1 then 2 else if sf = 2 then 4 else 8
    memRead s env (sp + 1) 1 = .ok x →
    (sf = 0 ∨ s.wBytes < k → exec (.rtu p) s = .refused .reservedFrameSize) ∧
    (sf ≠ 0 → k ≤ s.wBytes → env = .user → x.getLsbD 3 = true →
      exec (.rtu p) s = answer (enterAbort s (past (.rtu p) s).pc .privrti)) ∧
    (sf ≠ 0 → k ≤ s.wBytes → ¬ (env = .user ∧ x.getLsbD 3 = true) → memRead s env (sp + 2) k = .ok a →
      exec (.rtu p) s = .next
        { (past (.rtu p) s).setSp env (sp + 1 + word k) with
          pc := wrap s.w (signed (8 * k) a.toNat + 1)
          sr := { s.sr with
            sf := sf
            h := (env = .hyp && x.getLsbD 3) || !s.cfg.hyp
            p := (env = .hyp && x.getLsbD 2) || !s.cfg.hyp }
          link := none })

/-- On a machine without containers and vacant addresses, RTU undoes TRP (R687, R691): the code goes on after the TRP with every
register, flag and mode bit as before, but for `SF`, the reservation, and `P`, which a return to user mode clears. -/
def Obligations.RtuUndoesTrp : Prop :=
  ∀ (op : Word) (s : State), s.wellFormed = true → s.cfg.ncont = 0 → s.cfg.vacant = [] →
    op.toNat % 256 < s.tmv.toNat →
    ∃ u, exec (.trp .none op) s = .next u ∧ u.isHyp = true ∧
      exec (.rtu .none) u = .next
        { past (.trp .none op) s with
          mem := u.mem
          link := none
          sr := { s.sr with
            p := s.sr.p && s.isHyp
            sf := sizeCode (frameSize s.cfg (wrap s.w ((past (.trp .none op) s).pc.toNat - 1)).toNat) } }

/-- On a machine without containers and vacant addresses, with `IVACT = 1`, RTI undoes the entry of an interrupt that user
code does not handle itself (R692, R696): the interrupted code goes on with every register, flag and mode bit as before, but
for `SF`, the reservation, `P`, which a return to user mode clears, and `EIM`, which RTI reloads from `IMR`. -/
def Obligations.RtiUndoesAVectoredInterrupt : Prop :=
  ∀ (s : State) (k : Nat), s.wellFormed = true → s.cfg.ncont = 0 → s.cfg.vacant = [] → s.ivAct = true → k ≤ 7 →
    ¬ (k ≠ 0 ∧ s.isHyp = false ∧ s.muUsel.toNat = k) →
    ∃ u, enterInterrupt s k = .ok u ∧ u.isHyp = true ∧
      exec (.rti .none) u = .next
        { s with
          mem := u.mem
          link := none
          run := .running
          nmiPend := s.nmiPend && decide (k ≠ 0)
          eim := s.imr
          sr := { s.sr with p := s.sr.p && s.isHyp, sf := sizeCode (frameSize s.cfg s.pc.toNat) } }
end

