-- ==== Sys2Proof/Laws/Bits.lean ====
section
/-! SUPPORT. The bit operations of Machine/Bits.lean as arithmetic on naturals. -/

namespace Sys2Proof.Machine

theorem pow_width_le (w : Width) : 2 ^ w.bits ≤ 2 ^ 64 := Nat.pow_le_pow_right (by decide) (by cases w <;> decide)

/-- `low` keeps a value modulo `2^n`. -/
@[simp] theorem low_toNat (n : Nat) (v : Word) : (low n v).toNat = v.toNat % 2 ^ n := by
  simp only [low, BitVec.toNat_setWidth]
  exact Nat.mod_eq_of_lt (Nat.lt_of_le_of_lt (Nat.mod_le _ _) v.isLt)

/-- The bits of `low`. -/
@[simp] theorem low_getLsbD (n : Nat) (v : Word) (i : Nat) : (low n v).getLsbD i = (decide (i < n) && v.getLsbD i) := by
  simp only [low, BitVec.getLsbD_setWidth]
  by_cases h : i < 64
  · simp [h]
  · simp [h, BitVec.getLsbD_of_ge v i (by omega)]

/-- The bits of `low`, by index. -/
@[simp] theorem low_getElem (n : Nat) (v : Word) (i : Nat) (hi : i < 64) : (low n v)[i] = (decide (i < n) && v[i]) := by
  rw [← BitVec.getLsbD_eq_getElem, low_getLsbD, BitVec.getLsbD_eq_getElem hi]

/-- Truncating twice truncates once. -/
@[simp] theorem low_low (n : Nat) (v : Word) : low n (low n v) = low n v := by
  apply BitVec.eq_of_toNat_eq; simp

/-- A value below `2^n` is its own truncation. -/
theorem low_eq_self {n : Nat} {v : Word} (h : v.toNat < 2 ^ n) : low n v = v := by
  apply BitVec.eq_of_toNat_eq; simp [Nat.mod_eq_of_lt h]

/-- The values that a truncation leaves alone are those below `2^n`. -/
theorem low_eq_self_iff {n : Nat} {v : Word} : low n v = v ↔ v.toNat < 2 ^ n := by
  refine ⟨fun h => ?_, low_eq_self⟩
  rw [← h, low_toNat]; exact Nat.mod_lt _ (Nat.two_pow_pos n)

/-- Truncation does not see a truncation under an addition. -/
@[simp] theorem low_low_add (n : Nat) (u v : Word) (hn : n ≤ 64 := by decide) : low n (low n u + v) = low n (u + v) := by
  have hd : 2 ^ n ∣ 18446744073709551616 := Nat.pow_dvd_pow 2 hn
  apply BitVec.eq_of_toNat_eq
  simp [Nat.mod_mod_of_dvd _ hd]

/-- The top bit of an `n`-bit value says whether it is at least `2^(n-1)`. -/
theorem topBit_eq {n : Nat} (hn : 0 < n) {v : Word} (h : v.toNat < 2 ^ n) : topBit n v = decide (2 ^ (n - 1) ≤ v.toNat) := by
  have e : 2 ^ n = 2 * 2 ^ (n - 1) := by rw [← Nat.pow_succ']; congr; omega
  rw [topBit, BitVec.getLsbD, Nat.testBit_eq_decide_div_mod_eq]
  have hp : 0 < 2 ^ (n - 1) := Nat.two_pow_pos _
  have : v.toNat / 2 ^ (n - 1) < 2 := by rw [Nat.div_lt_iff_lt_mul hp]; omega
  by_cases hc : 2 ^ (n - 1) ≤ v.toNat
  · have : 1 ≤ v.toNat / 2 ^ (n - 1) := by rw [Nat.le_div_iff_mul_le hp]; omega
    have : v.toNat / 2 ^ (n - 1) = 1 := by omega
    simp [this, hc]
  · have : v.toNat / 2 ^ (n - 1) = 0 := Nat.div_eq_of_lt (by omega)
    simp [this, hc]

/-- `reg[n-1:0] <- v` keeps what lies above bit `n`. -/
theorem insertLow_toNat (n : Nat) (reg v : Word) :
    (insertLow n reg v).toNat = reg.toNat / 2 ^ n * 2 ^ n + v.toNat % 2 ^ n := by
  have h1 : ((reg >>> n) <<< n).toNat = reg.toNat / 2 ^ n * 2 ^ n := by
    rw [BitVec.toNat_shiftLeft, BitVec.toNat_ushiftRight, Nat.shiftLeft_eq, Nat.shiftRight_eq_div_pow]
    apply Nat.mod_eq_of_lt
    exact Nat.lt_of_le_of_lt (Nat.div_mul_le_self _ _) reg.isLt
  rw [insertLow, BitVec.toNat_or, h1, low_toNat, Nat.mul_comm, ← Nat.two_pow_add_eq_or_of_lt]
  exact Nat.mod_lt _ (Nat.two_pow_pos n)

/-- The bits of `reg[n-1:0] <- v`. -/
theorem insertLow_getLsbD (n : Nat) (reg v : Word) (i : Nat) :
    (insertLow n reg v).getLsbD i = if i < n then v.getLsbD i else reg.getLsbD i := by
  by_cases h : i < n
  · simp [insertLow, h]
  · by_cases h64 : i < 64
    · simp [insertLow, h, h64, show n + (i - n) = i by omega]
    · simp [insertLow, BitVec.getLsbD_of_ge, show 64 ≤ i by omega]

/-- A value widened to `W` bits with its top bit. -/
theorem signExt_toNat {n w : Nat} (hw : n ≤ w) (h64 : w ≤ 64) (v : Word) :
    (signExt n w v).toNat = if 2 ^ (n - 1) ≤ v.toNat % 2 ^ n then v.toNat % 2 ^ n + (2 ^ w - 2 ^ n) else v.toNat % 2 ^ n := by
  have hle : 2 ^ n ≤ 2 ^ w := Nat.pow_le_pow_right (by decide) hw
  have hle' : 2 ^ w ≤ 2 ^ 64 := Nat.pow_le_pow_right (by decide) h64
  have hlt : v.toNat % 2 ^ n < 2 ^ n := Nat.mod_lt _ (Nat.two_pow_pos n)
  have hd : 2 ^ w ∣ 2 ^ 64 := Nat.pow_dvd_pow 2 h64
  have hm : (v.setWidth n).msb = decide (2 ^ (n - 1) ≤ v.toNat % 2 ^ n) := by
    rw [BitVec.msb_eq_decide]; simp
  rw [signExt, low_toNat, BitVec.toNat_signExtend, BitVec.toNat_setWidth, BitVec.toNat_setWidth, hm,
    Nat.mod_eq_of_lt (Nat.lt_of_lt_of_le hlt (Nat.le_trans hle hle'))]
  by_cases hc : 2 ^ (n - 1) ≤ v.toNat % 2 ^ n
  · simp only [hc, decide_true, if_true]
    obtain ⟨q, hq⟩ := hd
    have hq1 : 1 ≤ q := by
      rcases Nat.eq_zero_or_pos q with rfl | h
      · simp at hq
      · exact h
    have : v.toNat % 2 ^ n + (2 ^ 64 - 2 ^ n) = (v.toNat % 2 ^ n + (2 ^ w - 2 ^ n)) + 2 ^ w * (q - 1) := by
      rw [hq, Nat.mul_sub, Nat.mul_one]
      have : 2 ^ w ≤ 2 ^ w * q := Nat.le_mul_of_pos_right _ hq1
      omega
    rw [this, Nat.add_mul_mod_self_left]
    exact Nat.mod_eq_of_lt (by omega)
  · simp only [hc, decide_false, if_false, Nat.add_zero, Bool.false_eq_true]
    exact Nat.mod_eq_of_lt (Nat.lt_of_lt_of_le hlt hle)

/-- A sign extension is truncated. -/
@[simp] theorem low_signExt (n w : Nat) (v : Word) : low w (signExt n w v) = signExt n w v := by simp [signExt]

/-- A value has as many bytes as asked for. -/
@[simp] theorem toBytes_length : ∀ (k : Nat) (v : Word), (toBytes k v).length = k
  | 0, _ => rfl
  | k + 1, v => by simp [toBytes, toBytes_length k]

/-- Bytes put together least significant first. -/
theorem ofBytes_cons_toNat (b : Byte) (bs : List Byte) :
    (ofBytes (b :: bs)).toNat = b.toNat + 256 * ((ofBytes bs).toNat % 2 ^ 56) := by
  have hs : (ofBytes bs <<< 8).toNat = 2 ^ 8 * ((ofBytes bs).toNat % 2 ^ 56) := by
    rw [BitVec.toNat_shiftLeft, Nat.shiftLeft_eq, show (2 : Nat) ^ 64 = 2 ^ 56 * 2 ^ 8 by norm_num, Nat.mul_mod_mul_right,
      Nat.mul_comm]
  have hb : (b.setWidth 64).toNat = b.toNat := by simp; have := b.isLt; omega
  rw [ofBytes, BitVec.toNat_or, hs, hb, Nat.or_comm, ← Nat.two_pow_add_eq_or_of_lt b.isLt]
  omega

/-- `k` bytes make a value below `2^(8k)`. -/
theorem ofBytes_lt : ∀ bs : List Byte, (ofBytes bs).toNat < 2 ^ (8 * bs.length)
  | [] => by simp [ofBytes]
  | b :: bs => by
    rw [ofBytes_cons_toNat]
    have h1 := ofBytes_lt bs
    have h2 := b.isLt
    have h3 : (ofBytes bs).toNat % 2 ^ 56 ≤ (ofBytes bs).toNat := Nat.mod_le _ _
    have : 2 ^ (8 * (b :: bs).length) = 256 * 2 ^ (8 * bs.length) := by
      rw [List.length_cons, Nat.mul_add, Nat.pow_add]; omega
    omega

/-- Taking a value apart and putting it together gives its low bytes (R104). -/
theorem ofBytes_toBytes : ∀ (k : Nat) (v : Word), ofBytes (toBytes k v) = low (8 * k) v
  | 0, v => by apply BitVec.eq_of_toNat_eq; simp [toBytes, ofBytes, Nat.mod_one]
  | k + 1, v => by
    apply BitVec.eq_of_getLsbD_eq
    intro i hi
    rw [toBytes, ofBytes, ofBytes_toBytes k, low_getLsbD]
    by_cases h : i < 8
    · simp [h, hi, show i < 8 * (k + 1) by omega]
    · have e : decide (i - 8 < 8 * k) = decide (i < 8 * (k + 1)) := by rw [decide_eq_decide]; omega
      simp [h, hi, e, show 8 + (i - 8) = i by omega]

end Sys2Proof.Machine
end

