-- ==== Sys2Proof/Laws/Memory.lean ====
section
/-! SUPPORT. The laws of physical memory: reading after a write, and the canonical form. -/

namespace Sys2Proof.Machine

/-- A canonical list whose addresses start at `a` starts at every lower bound too. -/
theorem Memory.wfAbove_mono {a b : Nat} (h : a ≤ b) : ∀ {m : Memory}, Memory.wfAbove b m = true → Memory.wfAbove a m = true
  | [], _ => rfl
  | (_, _) :: _, hm => by
    simp only [Memory.wfAbove, Bool.and_eq_true, decide_eq_true_eq] at hm ⊢
    exact ⟨⟨by omega, hm.1.2⟩, hm.2⟩

/-- Below the first address of a canonical list nothing is listed. -/
theorem Memory.byteAt_below {a p : Nat} (h : p < a) : ∀ {m : Memory}, Memory.wfAbove a m = true → m.byteAt p = unlistedByte
  | [], _ => rfl
  | (q, v) :: rest, hm => by
    simp only [Memory.wfAbove, Bool.and_eq_true, decide_eq_true_eq] at hm
    simp [Memory.byteAt, show q ≠ p by omega, show p < q by omega]

/-- Reading after a write, in a canonical memory. -/
theorem Memory.byteAt_storeAbove {a : Nat} (p q : Nat) (v : Byte) : ∀ {m : Memory}, Memory.wfAbove a m = true →
    (m.store p v).byteAt q = if q = p then v else m.byteAt q
  | [], _ => by
    unfold Memory.store; split <;> rename_i hv
    · split <;> simp_all [Memory.byteAt]
    · by_cases hq : q = p
      · subst hq; simp [Memory.byteAt]
      · simp [Memory.byteAt, Ne.symm hq, hq]
  | (r, u) :: rest, hm => by
    have hm' := hm
    simp only [Memory.wfAbove, Bool.and_eq_true, decide_eq_true_eq] at hm
    have below : ∀ t, t ≤ r → Memory.byteAt rest t = unlistedByte := fun t ht =>
      Memory.byteAt_below (by omega) hm.2
    unfold Memory.store
    split
    · rename_i hr; subst hr
      by_cases hq : q = r
      · subst hq; split <;> simp_all [Memory.byteAt]
      · split
        · rename_i hv
          simp only [Memory.byteAt, if_neg (Ne.symm hq)]
          split
          · exact below q (by omega)
          · rfl
        · simp [Memory.byteAt, Ne.symm hq]
    · rename_i hr
      split
      · rename_i hp
        have hpr : p ≠ r := fun e => hr e.symm
        split
        · rename_i hv
          by_cases hq : q = p
          · subst hq; simp [Memory.byteAt, hr, hp, hv]
          · simp [hq]
        · by_cases hq : q = p
          · subst hq; simp [Memory.byteAt]
          · simp only [Memory.byteAt, if_neg (Ne.symm hq), if_neg hq]
            split
            · rename_i h1
              simp [show r ≠ q by omega, show q < r by omega]
            · rfl
      · simp only [Memory.byteAt]
        split
        · rename_i h1; subst h1; simp [hr]
        · split
          · rename_i h1 h2
            simp [show q ≠ p by omega]
          · exact Memory.byteAt_storeAbove p q v hm.2

/-- Reading after a write, in a canonical memory. -/
theorem Memory.byteAt_store {m : Memory} (h : m.wf = true) (p q : Nat) (v : Byte) :
    (m.store p v).byteAt q = if q = p then v else m.byteAt q := Memory.byteAt_storeAbove p q v h

/-- A write keeps the canonical form. -/
theorem Memory.wfAbove_store {a p : Nat} (hp : a ≤ p) (v : Byte) : ∀ {m : Memory}, Memory.wfAbove a m = true →
    Memory.wfAbove a (m.store p v) = true
  | [], _ => by
    unfold Memory.store; split
    · rfl
    · simp_all [Memory.wfAbove]
  | (r, u) :: rest, hm => by
    have hm' := hm
    simp only [Memory.wfAbove, Bool.and_eq_true, decide_eq_true_eq, Bool.not_eq_true'] at hm
    obtain ⟨⟨har, hu⟩, hrest⟩ := hm
    unfold Memory.store
    split
    · rename_i hr; subst hr
      split
      · exact Memory.wfAbove_mono (by omega) hrest
      · simp_all [Memory.wfAbove]
    · split
      · split
        · exact hm'
        · rename_i h1 h2 h3
          simp only [Memory.wfAbove, Bool.and_eq_true, decide_eq_true_eq, Bool.not_eq_true']
          exact ⟨⟨hp, by simpa using h3⟩, ⟨by omega, hu⟩, hrest⟩
      · rename_i h1 h2
        simp only [Memory.wfAbove, Bool.and_eq_true, decide_eq_true_eq, Bool.not_eq_true']
        exact ⟨⟨har, hu⟩, Memory.wfAbove_store (by omega) v hrest⟩

/-- A write keeps the canonical form. -/
theorem Memory.wf_store {m : Memory} (h : m.wf = true) (p : Nat) (v : Byte) : (m.store p v).wf = true :=
  Memory.wfAbove_store (Nat.zero_le p) v h

/-- A write lists no address but its own. -/
theorem Memory.mem_store {c : Host.Cell} {p : Nat} {v : Byte} : ∀ {m : Memory}, c ∈ m.store p v → c ∈ m ∨ c.1 = p
  | [], h => by
    unfold Memory.store at h; split at h
    · cases h
    · simp_all
  | (r, u) :: rest, h => by
    unfold Memory.store at h
    split at h
    · split at h
      · exact .inl (.tail _ h)
      · rcases List.mem_cons.1 h with rfl | h
        · exact .inr rfl
        · exact .inl (.tail _ h)
    · split at h
      · split at h
        · exact .inl h
        · rcases List.mem_cons.1 h with rfl | h
          · exact .inr rfl
          · exact .inl h
      · rcases List.mem_cons.1 h with rfl | h
        · exact .inl (.head _)
        · exact (Memory.mem_store h).imp (.tail _) id

/-- Memories in canonical form that read alike are equal. -/
theorem Memory.ext_of_wfAbove {a : Nat} : ∀ {m n : Memory}, Memory.wfAbove a m = true → Memory.wfAbove a n = true →
    (∀ p, m.byteAt p = n.byteAt p) → m = n
  | [], [], _, _, _ => rfl
  | [], (q, v) :: rest, _, hn, h => by
    simp only [Memory.wfAbove, Bool.and_eq_true, Bool.not_eq_true', decide_eq_false_iff_not] at hn
    have := h q; simp [Memory.byteAt] at this; exact absurd this.symm hn.1.2
  | (q, v) :: rest, [], hm, _, h => by
    simp only [Memory.wfAbove, Bool.and_eq_true, Bool.not_eq_true', decide_eq_false_iff_not] at hm
    have := h q; simp [Memory.byteAt] at this; exact absurd this hm.1.2
  | (q, v) :: rest, (r, u) :: rest', hm, hn, h => by
    have hm' := hm; have hn' := hn
    simp only [Memory.wfAbove, Bool.and_eq_true, Bool.not_eq_true', decide_eq_false_iff_not, decide_eq_true_eq] at hm hn
    have hqr : q = r := by
      rcases Nat.lt_trichotomy q r with hlt | he | hlt
      · have := h q; simp [Memory.byteAt, show r ≠ q by omega, hlt] at this; exact absurd this hm.1.2
      · exact he
      · have := h r; simp [Memory.byteAt, show q ≠ r by omega, hlt] at this; exact absurd this.symm hn.1.2
    subst hqr
    have hvu : v = u := by have := h q; simpa [Memory.byteAt] using this
    subst hvu
    have : rest = rest' := Memory.ext_of_wfAbove hm.2 hn.2 fun p => by
      by_cases hp : p ≤ q
      · rw [Memory.byteAt_below (by omega) hm.2, Memory.byteAt_below (by omega) hn.2]
      · have := h p
        simpa [Memory.byteAt, show q ≠ p by omega, show ¬ p < q by omega] using this
    rw [this]

/-- Memories in canonical form that read alike are equal. -/
theorem Memory.ext_of_wf {m n : Memory} (hm : m.wf = true) (hn : n.wf = true) (h : ∀ p, m.byteAt p = n.byteAt p) : m = n :=
  Memory.ext_of_wfAbove hm hn h

/-- The memory of the reset state is canonical. -/
theorem reset_memory_wf : State.reset.mem.wf = true := rfl

end Sys2Proof.Machine
end

