-- ==== Sys2Proof/Laws/Claims.lean ====
section
/-! SUPPORT. The words of Claims.lean about memory in terms of the memory operations. -/

namespace Sys2Proof.Claims

open Sys2Proof.Machine

/-- Storing bytes one after another is `byteAfter`, and keeps the canonical form. -/
theorem byteAt_storeAll (ws : List (Nat × Byte)) {m : Memory} (hm : m.wf = true) :
    (ws.foldl (fun m c => m.store c.1 c.2) m).wf = true ∧
    ∀ q, (ws.foldl (fun m c => m.store c.1 c.2) m).byteAt q = byteAfter m ws q := by
  induction ws using List.reverseRecOn with
  | nil => exact ⟨hm, fun q => rfl⟩
  | append_singleton ws c ih =>
    simp only [List.foldl_append, List.foldl_cons, List.foldl_nil]
    refine ⟨Memory.wf_store ih.1 _ _, fun q => ?_⟩
    rw [Memory.byteAt_store ih.1, ih.2]
    simp only [byteAfter, List.reverse_append, List.reverse_cons, List.reverse_nil, List.nil_append, List.cons_append,
      List.find?_cons]
    by_cases h : q = c.1
    · simp [h]
    · have : (c.1 == q) = false := by simp [Ne.symm h]
      simp [h, this]

/-- What `Stores` says of a memory determines it. -/
theorem stores_iff {s : State} {env : Env} {cells : List (Word × Byte)} {m : Memory} (hs : s.mem.wf = true) :
    Stores s env cells m ↔ m = (landed s env cells).foldl (fun m c => m.store c.1 c.2) s.mem := by
  constructor
  · intro h
    exact Memory.ext_of_wf h.1 (byteAt_storeAll _ hs).1 fun q => by rw [h.2, (byteAt_storeAll _ hs).2]
  · rintro rfl
    exact byteAt_storeAll _ hs

end Sys2Proof.Claims
end

