-- ==== Sys2Proof/Laws/State.lean ====
section
/-! SUPPORT. What each update of the state leaves in each field, so that no proof unfolds a record update. -/

namespace Sys2Proof.Machine

/-! ### `State.setH` -/

@[simp] theorem State.setH_cfg (s : State) (v : Bool) : (s.setH v).cfg = s.cfg := rfl
@[simp] theorem State.setH_a (s : State) (v : Bool) : (s.setH v).a = s.a := rfl
@[simp] theorem State.setH_x (s : State) (v : Bool) : (s.setH v).x = s.x := rfl
@[simp] theorem State.setH_y (s : State) (v : Bool) : (s.setH v).y = s.y := rfl
@[simp] theorem State.setH_e (s : State) (v : Bool) : (s.setH v).e = s.e := rfl
@[simp] theorem State.setH_b (s : State) (v : Bool) : (s.setH v).b = s.b := rfl
@[simp] theorem State.setH_spu (s : State) (v : Bool) : (s.setH v).spu = s.spu := rfl
@[simp] theorem State.setH_sph (s : State) (v : Bool) : (s.setH v).sph = s.sph := rfl
@[simp] theorem State.setH_pc (s : State) (v : Bool) : (s.setH v).pc = s.pc := rfl
@[simp] theorem State.setH_sr (s : State) (v : Bool) : (s.setH v).sr = { s.sr with h := v || !s.cfg.hyp } := rfl
@[simp] theorem State.setH_imr (s : State) (v : Bool) : (s.setH v).imr = s.imr := rfl
@[simp] theorem State.setH_eim (s : State) (v : Bool) : (s.setH v).eim = s.eim := rfl
@[simp] theorem State.setH_iv (s : State) (v : Bool) : (s.setH v).iv = s.iv := rfl
@[simp] theorem State.setH_av (s : State) (v : Bool) : (s.setH v).av = s.av := rfl
@[simp] theorem State.setH_tv (s : State) (v : Bool) : (s.setH v).tv = s.tv := rfl
@[simp] theorem State.setH_tmv (s : State) (v : Bool) : (s.setH v).tmv = s.tmv := rfl
@[simp] theorem State.setH_ivAct (s : State) (v : Bool) : (s.setH v).ivAct = s.ivAct := rfl
@[simp] theorem State.setH_avAct (s : State) (v : Bool) : (s.setH v).avAct = s.avAct := rfl
@[simp] theorem State.setH_tvAct (s : State) (v : Bool) : (s.setH v).tvAct = s.tvAct := rfl
@[simp] theorem State.setH_mh (s : State) (v : Bool) : (s.setH v).mh = s.mh := rfl
@[simp] theorem State.setH_muCode (s : State) (v : Bool) : (s.setH v).muCode = s.muCode := rfl
@[simp] theorem State.setH_muUsel (s : State) (v : Bool) : (s.setH v).muUsel = s.muUsel := rfl
@[simp] theorem State.setH_cont (s : State) (v : Bool) : (s.setH v).cont = s.cont := rfl
@[simp] theorem State.setH_actCore (s : State) (v : Bool) : (s.setH v).actCore = s.actCore := rfl
@[simp] theorem State.setH_irqLine (s : State) (v : Bool) : (s.setH v).irqLine = s.irqLine := rfl
@[simp] theorem State.setH_nmiLine (s : State) (v : Bool) : (s.setH v).nmiLine = s.nmiLine := rfl
@[simp] theorem State.setH_nmiPend (s : State) (v : Bool) : (s.setH v).nmiPend = s.nmiPend := rfl
@[simp] theorem State.setH_link (s : State) (v : Bool) : (s.setH v).link = s.link := rfl
@[simp] theorem State.setH_run (s : State) (v : Bool) : (s.setH v).run = s.run := rfl
@[simp] theorem State.setH_mem (s : State) (v : Bool) : (s.setH v).mem = s.mem := rfl

/-! ### `State.setP` -/

@[simp] theorem State.setP_cfg (s : State) (v : Bool) : (s.setP v).cfg = s.cfg := rfl
@[simp] theorem State.setP_a (s : State) (v : Bool) : (s.setP v).a = s.a := rfl
@[simp] theorem State.setP_x (s : State) (v : Bool) : (s.setP v).x = s.x := rfl
@[simp] theorem State.setP_y (s : State) (v : Bool) : (s.setP v).y = s.y := rfl
@[simp] theorem State.setP_e (s : State) (v : Bool) : (s.setP v).e = s.e := rfl
@[simp] theorem State.setP_b (s : State) (v : Bool) : (s.setP v).b = s.b := rfl
@[simp] theorem State.setP_spu (s : State) (v : Bool) : (s.setP v).spu = s.spu := rfl
@[simp] theorem State.setP_sph (s : State) (v : Bool) : (s.setP v).sph = s.sph := rfl
@[simp] theorem State.setP_pc (s : State) (v : Bool) : (s.setP v).pc = s.pc := rfl
@[simp] theorem State.setP_sr (s : State) (v : Bool) : (s.setP v).sr = { s.sr with p := v || !s.cfg.hyp } := rfl
@[simp] theorem State.setP_imr (s : State) (v : Bool) : (s.setP v).imr = s.imr := rfl
@[simp] theorem State.setP_eim (s : State) (v : Bool) : (s.setP v).eim = s.eim := rfl
@[simp] theorem State.setP_iv (s : State) (v : Bool) : (s.setP v).iv = s.iv := rfl
@[simp] theorem State.setP_av (s : State) (v : Bool) : (s.setP v).av = s.av := rfl
@[simp] theorem State.setP_tv (s : State) (v : Bool) : (s.setP v).tv = s.tv := rfl
@[simp] theorem State.setP_tmv (s : State) (v : Bool) : (s.setP v).tmv = s.tmv := rfl
@[simp] theorem State.setP_ivAct (s : State) (v : Bool) : (s.setP v).ivAct = s.ivAct := rfl
@[simp] theorem State.setP_avAct (s : State) (v : Bool) : (s.setP v).avAct = s.avAct := rfl
@[simp] theorem State.setP_tvAct (s : State) (v : Bool) : (s.setP v).tvAct = s.tvAct := rfl
@[simp] theorem State.setP_mh (s : State) (v : Bool) : (s.setP v).mh = s.mh := rfl
@[simp] theorem State.setP_muCode (s : State) (v : Bool) : (s.setP v).muCode = s.muCode := rfl
@[simp] theorem State.setP_muUsel (s : State) (v : Bool) : (s.setP v).muUsel = s.muUsel := rfl
@[simp] theorem State.setP_cont (s : State) (v : Bool) : (s.setP v).cont = s.cont := rfl
@[simp] theorem State.setP_actCore (s : State) (v : Bool) : (s.setP v).actCore = s.actCore := rfl
@[simp] theorem State.setP_irqLine (s : State) (v : Bool) : (s.setP v).irqLine = s.irqLine := rfl
@[simp] theorem State.setP_nmiLine (s : State) (v : Bool) : (s.setP v).nmiLine = s.nmiLine := rfl
@[simp] theorem State.setP_nmiPend (s : State) (v : Bool) : (s.setP v).nmiPend = s.nmiPend := rfl
@[simp] theorem State.setP_link (s : State) (v : Bool) : (s.setP v).link = s.link := rfl
@[simp] theorem State.setP_run (s : State) (v : Bool) : (s.setP v).run = s.run := rfl
@[simp] theorem State.setP_mem (s : State) (v : Bool) : (s.setP v).mem = s.mem := rfl

/-! ### `State.setSf` -/

@[simp] theorem State.setSf_cfg (s : State) (v : BitVec 2) : (s.setSf v).cfg = s.cfg := rfl
@[simp] theorem State.setSf_a (s : State) (v : BitVec 2) : (s.setSf v).a = s.a := rfl
@[simp] theorem State.setSf_x (s : State) (v : BitVec 2) : (s.setSf v).x = s.x := rfl
@[simp] theorem State.setSf_y (s : State) (v : BitVec 2) : (s.setSf v).y = s.y := rfl
@[simp] theorem State.setSf_e (s : State) (v : BitVec 2) : (s.setSf v).e = s.e := rfl
@[simp] theorem State.setSf_b (s : State) (v : BitVec 2) : (s.setSf v).b = s.b := rfl
@[simp] theorem State.setSf_spu (s : State) (v : BitVec 2) : (s.setSf v).spu = s.spu := rfl
@[simp] theorem State.setSf_sph (s : State) (v : BitVec 2) : (s.setSf v).sph = s.sph := rfl
@[simp] theorem State.setSf_pc (s : State) (v : BitVec 2) : (s.setSf v).pc = s.pc := rfl
@[simp] theorem State.setSf_sr (s : State) (v : BitVec 2) : (s.setSf v).sr = { s.sr with sf := v } := rfl
@[simp] theorem State.setSf_imr (s : State) (v : BitVec 2) : (s.setSf v).imr = s.imr := rfl
@[simp] theorem State.setSf_eim (s : State) (v : BitVec 2) : (s.setSf v).eim = s.eim := rfl
@[simp] theorem State.setSf_iv (s : State) (v : BitVec 2) : (s.setSf v).iv = s.iv := rfl
@[simp] theorem State.setSf_av (s : State) (v : BitVec 2) : (s.setSf v).av = s.av := rfl
@[simp] theorem State.setSf_tv (s : State) (v : BitVec 2) : (s.setSf v).tv = s.tv := rfl
@[simp] theorem State.setSf_tmv (s : State) (v : BitVec 2) : (s.setSf v).tmv = s.tmv := rfl
@[simp] theorem State.setSf_ivAct (s : State) (v : BitVec 2) : (s.setSf v).ivAct = s.ivAct := rfl
@[simp] theorem State.setSf_avAct (s : State) (v : BitVec 2) : (s.setSf v).avAct = s.avAct := rfl
@[simp] theorem State.setSf_tvAct (s : State) (v : BitVec 2) : (s.setSf v).tvAct = s.tvAct := rfl
@[simp] theorem State.setSf_mh (s : State) (v : BitVec 2) : (s.setSf v).mh = s.mh := rfl
@[simp] theorem State.setSf_muCode (s : State) (v : BitVec 2) : (s.setSf v).muCode = s.muCode := rfl
@[simp] theorem State.setSf_muUsel (s : State) (v : BitVec 2) : (s.setSf v).muUsel = s.muUsel := rfl
@[simp] theorem State.setSf_cont (s : State) (v : BitVec 2) : (s.setSf v).cont = s.cont := rfl
@[simp] theorem State.setSf_actCore (s : State) (v : BitVec 2) : (s.setSf v).actCore = s.actCore := rfl
@[simp] theorem State.setSf_irqLine (s : State) (v : BitVec 2) : (s.setSf v).irqLine = s.irqLine := rfl
@[simp] theorem State.setSf_nmiLine (s : State) (v : BitVec 2) : (s.setSf v).nmiLine = s.nmiLine := rfl
@[simp] theorem State.setSf_nmiPend (s : State) (v : BitVec 2) : (s.setSf v).nmiPend = s.nmiPend := rfl
@[simp] theorem State.setSf_link (s : State) (v : BitVec 2) : (s.setSf v).link = s.link := rfl
@[simp] theorem State.setSf_run (s : State) (v : BitVec 2) : (s.setSf v).run = s.run := rfl
@[simp] theorem State.setSf_mem (s : State) (v : BitVec 2) : (s.setSf v).mem = s.mem := rfl

/-! ### `State.setI` -/

@[simp] theorem State.setI_cfg (s : State) (v : Bool) : (s.setI v).cfg = s.cfg := rfl
@[simp] theorem State.setI_a (s : State) (v : Bool) : (s.setI v).a = s.a := rfl
@[simp] theorem State.setI_x (s : State) (v : Bool) : (s.setI v).x = s.x := rfl
@[simp] theorem State.setI_y (s : State) (v : Bool) : (s.setI v).y = s.y := rfl
@[simp] theorem State.setI_e (s : State) (v : Bool) : (s.setI v).e = s.e := rfl
@[simp] theorem State.setI_b (s : State) (v : Bool) : (s.setI v).b = s.b := rfl
@[simp] theorem State.setI_spu (s : State) (v : Bool) : (s.setI v).spu = s.spu := rfl
@[simp] theorem State.setI_sph (s : State) (v : Bool) : (s.setI v).sph = s.sph := rfl
@[simp] theorem State.setI_pc (s : State) (v : Bool) : (s.setI v).pc = s.pc := rfl
@[simp] theorem State.setI_sr (s : State) (v : Bool) : (s.setI v).sr = { s.sr with i := v } := rfl
@[simp] theorem State.setI_imr (s : State) (v : Bool) : (s.setI v).imr = s.imr := rfl
@[simp] theorem State.setI_eim (s : State) (v : Bool) : (s.setI v).eim = s.eim := rfl
@[simp] theorem State.setI_iv (s : State) (v : Bool) : (s.setI v).iv = s.iv := rfl
@[simp] theorem State.setI_av (s : State) (v : Bool) : (s.setI v).av = s.av := rfl
@[simp] theorem State.setI_tv (s : State) (v : Bool) : (s.setI v).tv = s.tv := rfl
@[simp] theorem State.setI_tmv (s : State) (v : Bool) : (s.setI v).tmv = s.tmv := rfl
@[simp] theorem State.setI_ivAct (s : State) (v : Bool) : (s.setI v).ivAct = s.ivAct := rfl
@[simp] theorem State.setI_avAct (s : State) (v : Bool) : (s.setI v).avAct = s.avAct := rfl
@[simp] theorem State.setI_tvAct (s : State) (v : Bool) : (s.setI v).tvAct = s.tvAct := rfl
@[simp] theorem State.setI_mh (s : State) (v : Bool) : (s.setI v).mh = s.mh := rfl
@[simp] theorem State.setI_muCode (s : State) (v : Bool) : (s.setI v).muCode = s.muCode := rfl
@[simp] theorem State.setI_muUsel (s : State) (v : Bool) : (s.setI v).muUsel = s.muUsel := rfl
@[simp] theorem State.setI_cont (s : State) (v : Bool) : (s.setI v).cont = s.cont := rfl
@[simp] theorem State.setI_actCore (s : State) (v : Bool) : (s.setI v).actCore = s.actCore := rfl
@[simp] theorem State.setI_irqLine (s : State) (v : Bool) : (s.setI v).irqLine = s.irqLine := rfl
@[simp] theorem State.setI_nmiLine (s : State) (v : Bool) : (s.setI v).nmiLine = s.nmiLine := rfl
@[simp] theorem State.setI_nmiPend (s : State) (v : Bool) : (s.setI v).nmiPend = s.nmiPend := rfl
@[simp] theorem State.setI_link (s : State) (v : Bool) : (s.setI v).link = s.link := rfl
@[simp] theorem State.setI_run (s : State) (v : Bool) : (s.setI v).run = s.run := rfl
@[simp] theorem State.setI_mem (s : State) (v : Bool) : (s.setI v).mem = s.mem := rfl

/-! ### `State.setEim` -/

@[simp] theorem State.setEim_cfg (s : State) (v : BitVec 3) : (s.setEim v).cfg = s.cfg := rfl
@[simp] theorem State.setEim_a (s : State) (v : BitVec 3) : (s.setEim v).a = s.a := rfl
@[simp] theorem State.setEim_x (s : State) (v : BitVec 3) : (s.setEim v).x = s.x := rfl
@[simp] theorem State.setEim_y (s : State) (v : BitVec 3) : (s.setEim v).y = s.y := rfl
@[simp] theorem State.setEim_e (s : State) (v : BitVec 3) : (s.setEim v).e = s.e := rfl
@[simp] theorem State.setEim_b (s : State) (v : BitVec 3) : (s.setEim v).b = s.b := rfl
@[simp] theorem State.setEim_spu (s : State) (v : BitVec 3) : (s.setEim v).spu = s.spu := rfl
@[simp] theorem State.setEim_sph (s : State) (v : BitVec 3) : (s.setEim v).sph = s.sph := rfl
@[simp] theorem State.setEim_pc (s : State) (v : BitVec 3) : (s.setEim v).pc = s.pc := rfl
@[simp] theorem State.setEim_sr (s : State) (v : BitVec 3) : (s.setEim v).sr = s.sr := rfl
@[simp] theorem State.setEim_imr (s : State) (v : BitVec 3) : (s.setEim v).imr = s.imr := rfl
@[simp] theorem State.setEim_eim (s : State) (v : BitVec 3) : (s.setEim v).eim = v := rfl
@[simp] theorem State.setEim_iv (s : State) (v : BitVec 3) : (s.setEim v).iv = s.iv := rfl
@[simp] theorem State.setEim_av (s : State) (v : BitVec 3) : (s.setEim v).av = s.av := rfl
@[simp] theorem State.setEim_tv (s : State) (v : BitVec 3) : (s.setEim v).tv = s.tv := rfl
@[simp] theorem State.setEim_tmv (s : State) (v : BitVec 3) : (s.setEim v).tmv = s.tmv := rfl
@[simp] theorem State.setEim_ivAct (s : State) (v : BitVec 3) : (s.setEim v).ivAct = s.ivAct := rfl
@[simp] theorem State.setEim_avAct (s : State) (v : BitVec 3) : (s.setEim v).avAct = s.avAct := rfl
@[simp] theorem State.setEim_tvAct (s : State) (v : BitVec 3) : (s.setEim v).tvAct = s.tvAct := rfl
@[simp] theorem State.setEim_mh (s : State) (v : BitVec 3) : (s.setEim v).mh = s.mh := rfl
@[simp] theorem State.setEim_muCode (s : State) (v : BitVec 3) : (s.setEim v).muCode = s.muCode := rfl
@[simp] theorem State.setEim_muUsel (s : State) (v : BitVec 3) : (s.setEim v).muUsel = s.muUsel := rfl
@[simp] theorem State.setEim_cont (s : State) (v : BitVec 3) : (s.setEim v).cont = s.cont := rfl
@[simp] theorem State.setEim_actCore (s : State) (v : BitVec 3) : (s.setEim v).actCore = s.actCore := rfl
@[simp] theorem State.setEim_irqLine (s : State) (v : BitVec 3) : (s.setEim v).irqLine = s.irqLine := rfl
@[simp] theorem State.setEim_nmiLine (s : State) (v : BitVec 3) : (s.setEim v).nmiLine = s.nmiLine := rfl
@[simp] theorem State.setEim_nmiPend (s : State) (v : BitVec 3) : (s.setEim v).nmiPend = s.nmiPend := rfl
@[simp] theorem State.setEim_link (s : State) (v : BitVec 3) : (s.setEim v).link = s.link := rfl
@[simp] theorem State.setEim_run (s : State) (v : BitVec 3) : (s.setEim v).run = s.run := rfl
@[simp] theorem State.setEim_mem (s : State) (v : BitVec 3) : (s.setEim v).mem = s.mem := rfl

/-! ### `State.unlink` -/

@[simp] theorem State.unlink_cfg (s : State) : (s.unlink).cfg = s.cfg := rfl
@[simp] theorem State.unlink_a (s : State) : (s.unlink).a = s.a := rfl
@[simp] theorem State.unlink_x (s : State) : (s.unlink).x = s.x := rfl
@[simp] theorem State.unlink_y (s : State) : (s.unlink).y = s.y := rfl
@[simp] theorem State.unlink_e (s : State) : (s.unlink).e = s.e := rfl
@[simp] theorem State.unlink_b (s : State) : (s.unlink).b = s.b := rfl
@[simp] theorem State.unlink_spu (s : State) : (s.unlink).spu = s.spu := rfl
@[simp] theorem State.unlink_sph (s : State) : (s.unlink).sph = s.sph := rfl
@[simp] theorem State.unlink_pc (s : State) : (s.unlink).pc = s.pc := rfl
@[simp] theorem State.unlink_sr (s : State) : (s.unlink).sr = s.sr := rfl
@[simp] theorem State.unlink_imr (s : State) : (s.unlink).imr = s.imr := rfl
@[simp] theorem State.unlink_eim (s : State) : (s.unlink).eim = s.eim := rfl
@[simp] theorem State.unlink_iv (s : State) : (s.unlink).iv = s.iv := rfl
@[simp] theorem State.unlink_av (s : State) : (s.unlink).av = s.av := rfl
@[simp] theorem State.unlink_tv (s : State) : (s.unlink).tv = s.tv := rfl
@[simp] theorem State.unlink_tmv (s : State) : (s.unlink).tmv = s.tmv := rfl
@[simp] theorem State.unlink_ivAct (s : State) : (s.unlink).ivAct = s.ivAct := rfl
@[simp] theorem State.unlink_avAct (s : State) : (s.unlink).avAct = s.avAct := rfl
@[simp] theorem State.unlink_tvAct (s : State) : (s.unlink).tvAct = s.tvAct := rfl
@[simp] theorem State.unlink_mh (s : State) : (s.unlink).mh = s.mh := rfl
@[simp] theorem State.unlink_muCode (s : State) : (s.unlink).muCode = s.muCode := rfl
@[simp] theorem State.unlink_muUsel (s : State) : (s.unlink).muUsel = s.muUsel := rfl
@[simp] theorem State.unlink_cont (s : State) : (s.unlink).cont = s.cont := rfl
@[simp] theorem State.unlink_actCore (s : State) : (s.unlink).actCore = s.actCore := rfl
@[simp] theorem State.unlink_irqLine (s : State) : (s.unlink).irqLine = s.irqLine := rfl
@[simp] theorem State.unlink_nmiLine (s : State) : (s.unlink).nmiLine = s.nmiLine := rfl
@[simp] theorem State.unlink_nmiPend (s : State) : (s.unlink).nmiPend = s.nmiPend := rfl
@[simp] theorem State.unlink_link (s : State) : (s.unlink).link = none := rfl
@[simp] theorem State.unlink_run (s : State) : (s.unlink).run = s.run := rfl
@[simp] theorem State.unlink_mem (s : State) : (s.unlink).mem = s.mem := rfl

/-! ### `State.setPc` -/

@[simp] theorem State.setPc_cfg (s : State) (v : Word) : (s.setPc v).cfg = s.cfg := rfl
@[simp] theorem State.setPc_a (s : State) (v : Word) : (s.setPc v).a = s.a := rfl
@[simp] theorem State.setPc_x (s : State) (v : Word) : (s.setPc v).x = s.x := rfl
@[simp] theorem State.setPc_y (s : State) (v : Word) : (s.setPc v).y = s.y := rfl
@[simp] theorem State.setPc_e (s : State) (v : Word) : (s.setPc v).e = s.e := rfl
@[simp] theorem State.setPc_b (s : State) (v : Word) : (s.setPc v).b = s.b := rfl
@[simp] theorem State.setPc_spu (s : State) (v : Word) : (s.setPc v).spu = s.spu := rfl
@[simp] theorem State.setPc_sph (s : State) (v : Word) : (s.setPc v).sph = s.sph := rfl
@[simp] theorem State.setPc_pc (s : State) (v : Word) : (s.setPc v).pc = low s.w v := rfl
@[simp] theorem State.setPc_sr (s : State) (v : Word) : (s.setPc v).sr = s.sr := rfl
@[simp] theorem State.setPc_imr (s : State) (v : Word) : (s.setPc v).imr = s.imr := rfl
@[simp] theorem State.setPc_eim (s : State) (v : Word) : (s.setPc v).eim = s.eim := rfl
@[simp] theorem State.setPc_iv (s : State) (v : Word) : (s.setPc v).iv = s.iv := rfl
@[simp] theorem State.setPc_av (s : State) (v : Word) : (s.setPc v).av = s.av := rfl
@[simp] theorem State.setPc_tv (s : State) (v : Word) : (s.setPc v).tv = s.tv := rfl
@[simp] theorem State.setPc_tmv (s : State) (v : Word) : (s.setPc v).tmv = s.tmv := rfl
@[simp] theorem State.setPc_ivAct (s : State) (v : Word) : (s.setPc v).ivAct = s.ivAct := rfl
@[simp] theorem State.setPc_avAct (s : State) (v : Word) : (s.setPc v).avAct = s.avAct := rfl
@[simp] theorem State.setPc_tvAct (s : State) (v : Word) : (s.setPc v).tvAct = s.tvAct := rfl
@[simp] theorem State.setPc_mh (s : State) (v : Word) : (s.setPc v).mh = s.mh := rfl
@[simp] theorem State.setPc_muCode (s : State) (v : Word) : (s.setPc v).muCode = s.muCode := rfl
@[simp] theorem State.setPc_muUsel (s : State) (v : Word) : (s.setPc v).muUsel = s.muUsel := rfl
@[simp] theorem State.setPc_cont (s : State) (v : Word) : (s.setPc v).cont = s.cont := rfl
@[simp] theorem State.setPc_actCore (s : State) (v : Word) : (s.setPc v).actCore = s.actCore := rfl
@[simp] theorem State.setPc_irqLine (s : State) (v : Word) : (s.setPc v).irqLine = s.irqLine := rfl
@[simp] theorem State.setPc_nmiLine (s : State) (v : Word) : (s.setPc v).nmiLine = s.nmiLine := rfl
@[simp] theorem State.setPc_nmiPend (s : State) (v : Word) : (s.setPc v).nmiPend = s.nmiPend := rfl
@[simp] theorem State.setPc_link (s : State) (v : Word) : (s.setPc v).link = s.link := rfl
@[simp] theorem State.setPc_run (s : State) (v : Word) : (s.setPc v).run = s.run := rfl
@[simp] theorem State.setPc_mem (s : State) (v : Word) : (s.setPc v).mem = s.mem := rfl

/-! ### `State.resume` -/

@[simp] theorem State.resume_cfg (s : State) : (s.resume).cfg = s.cfg := rfl
@[simp] theorem State.resume_a (s : State) : (s.resume).a = s.a := rfl
@[simp] theorem State.resume_x (s : State) : (s.resume).x = s.x := rfl
@[simp] theorem State.resume_y (s : State) : (s.resume).y = s.y := rfl
@[simp] theorem State.resume_e (s : State) : (s.resume).e = s.e := rfl
@[simp] theorem State.resume_b (s : State) : (s.resume).b = s.b := rfl
@[simp] theorem State.resume_spu (s : State) : (s.resume).spu = s.spu := rfl
@[simp] theorem State.resume_sph (s : State) : (s.resume).sph = s.sph := rfl
@[simp] theorem State.resume_pc (s : State) : (s.resume).pc = s.pc := rfl
@[simp] theorem State.resume_sr (s : State) : (s.resume).sr = s.sr := rfl
@[simp] theorem State.resume_imr (s : State) : (s.resume).imr = s.imr := rfl
@[simp] theorem State.resume_eim (s : State) : (s.resume).eim = s.eim := rfl
@[simp] theorem State.resume_iv (s : State) : (s.resume).iv = s.iv := rfl
@[simp] theorem State.resume_av (s : State) : (s.resume).av = s.av := rfl
@[simp] theorem State.resume_tv (s : State) : (s.resume).tv = s.tv := rfl
@[simp] theorem State.resume_tmv (s : State) : (s.resume).tmv = s.tmv := rfl
@[simp] theorem State.resume_ivAct (s : State) : (s.resume).ivAct = s.ivAct := rfl
@[simp] theorem State.resume_avAct (s : State) : (s.resume).avAct = s.avAct := rfl
@[simp] theorem State.resume_tvAct (s : State) : (s.resume).tvAct = s.tvAct := rfl
@[simp] theorem State.resume_mh (s : State) : (s.resume).mh = s.mh := rfl
@[simp] theorem State.resume_muCode (s : State) : (s.resume).muCode = s.muCode := rfl
@[simp] theorem State.resume_muUsel (s : State) : (s.resume).muUsel = s.muUsel := rfl
@[simp] theorem State.resume_cont (s : State) : (s.resume).cont = s.cont := rfl
@[simp] theorem State.resume_actCore (s : State) : (s.resume).actCore = s.actCore := rfl
@[simp] theorem State.resume_irqLine (s : State) : (s.resume).irqLine = s.irqLine := rfl
@[simp] theorem State.resume_nmiLine (s : State) : (s.resume).nmiLine = s.nmiLine := rfl
@[simp] theorem State.resume_nmiPend (s : State) : (s.resume).nmiPend = s.nmiPend := rfl
@[simp] theorem State.resume_link (s : State) : (s.resume).link = s.link := rfl
@[simp] theorem State.resume_run (s : State) : (s.resume).run = .running := rfl
@[simp] theorem State.resume_mem (s : State) : (s.resume).mem = s.mem := rfl

/-! ### `State.stopCore` -/

@[simp] theorem State.stopCore_cfg (s : State) : (s.stopCore).cfg = s.cfg := rfl
@[simp] theorem State.stopCore_a (s : State) : (s.stopCore).a = s.a := rfl
@[simp] theorem State.stopCore_x (s : State) : (s.stopCore).x = s.x := rfl
@[simp] theorem State.stopCore_y (s : State) : (s.stopCore).y = s.y := rfl
@[simp] theorem State.stopCore_e (s : State) : (s.stopCore).e = s.e := rfl
@[simp] theorem State.stopCore_b (s : State) : (s.stopCore).b = s.b := rfl
@[simp] theorem State.stopCore_spu (s : State) : (s.stopCore).spu = s.spu := rfl
@[simp] theorem State.stopCore_sph (s : State) : (s.stopCore).sph = s.sph := rfl
@[simp] theorem State.stopCore_pc (s : State) : (s.stopCore).pc = s.pc := rfl
@[simp] theorem State.stopCore_sr (s : State) : (s.stopCore).sr = s.sr := rfl
@[simp] theorem State.stopCore_imr (s : State) : (s.stopCore).imr = s.imr := rfl
@[simp] theorem State.stopCore_eim (s : State) : (s.stopCore).eim = s.eim := rfl
@[simp] theorem State.stopCore_iv (s : State) : (s.stopCore).iv = s.iv := rfl
@[simp] theorem State.stopCore_av (s : State) : (s.stopCore).av = s.av := rfl
@[simp] theorem State.stopCore_tv (s : State) : (s.stopCore).tv = s.tv := rfl
@[simp] theorem State.stopCore_tmv (s : State) : (s.stopCore).tmv = s.tmv := rfl
@[simp] theorem State.stopCore_ivAct (s : State) : (s.stopCore).ivAct = s.ivAct := rfl
@[simp] theorem State.stopCore_avAct (s : State) : (s.stopCore).avAct = s.avAct := rfl
@[simp] theorem State.stopCore_tvAct (s : State) : (s.stopCore).tvAct = s.tvAct := rfl
@[simp] theorem State.stopCore_mh (s : State) : (s.stopCore).mh = s.mh := rfl
@[simp] theorem State.stopCore_muCode (s : State) : (s.stopCore).muCode = s.muCode := rfl
@[simp] theorem State.stopCore_muUsel (s : State) : (s.stopCore).muUsel = s.muUsel := rfl
@[simp] theorem State.stopCore_cont (s : State) : (s.stopCore).cont = s.cont := rfl
@[simp] theorem State.stopCore_actCore (s : State) : (s.stopCore).actCore = s.actCore &&& ~~~coreBit s.cfg.myCore := rfl
@[simp] theorem State.stopCore_irqLine (s : State) : (s.stopCore).irqLine = s.irqLine := rfl
@[simp] theorem State.stopCore_nmiLine (s : State) : (s.stopCore).nmiLine = s.nmiLine := rfl
@[simp] theorem State.stopCore_nmiPend (s : State) : (s.stopCore).nmiPend = s.nmiPend := rfl
@[simp] theorem State.stopCore_link (s : State) : (s.stopCore).link = s.link := rfl
@[simp] theorem State.stopCore_run (s : State) : (s.stopCore).run = .stopped := rfl
@[simp] theorem State.stopCore_mem (s : State) : (s.stopCore).mem = s.mem := rfl

/-! ### `setNZ` -/

@[simp] theorem setNZ_cfg (fw : Nat) (r : Word) (s : State) : (setNZ fw r s).cfg = s.cfg := rfl
@[simp] theorem setNZ_a (fw : Nat) (r : Word) (s : State) : (setNZ fw r s).a = s.a := rfl
@[simp] theorem setNZ_x (fw : Nat) (r : Word) (s : State) : (setNZ fw r s).x = s.x := rfl
@[simp] theorem setNZ_y (fw : Nat) (r : Word) (s : State) : (setNZ fw r s).y = s.y := rfl
@[simp] theorem setNZ_e (fw : Nat) (r : Word) (s : State) : (setNZ fw r s).e = s.e := rfl
@[simp] theorem setNZ_b (fw : Nat) (r : Word) (s : State) : (setNZ fw r s).b = s.b := rfl
@[simp] theorem setNZ_spu (fw : Nat) (r : Word) (s : State) : (setNZ fw r s).spu = s.spu := rfl
@[simp] theorem setNZ_sph (fw : Nat) (r : Word) (s : State) : (setNZ fw r s).sph = s.sph := rfl
@[simp] theorem setNZ_pc (fw : Nat) (r : Word) (s : State) : (setNZ fw r s).pc = s.pc := rfl
@[simp] theorem setNZ_sr (fw : Nat) (r : Word) (s : State) : (setNZ fw r s).sr = { s.sr with n := topBit fw r, z := low fw r == 0 } := rfl
@[simp] theorem setNZ_imr (fw : Nat) (r : Word) (s : State) : (setNZ fw r s).imr = s.imr := rfl
@[simp] theorem setNZ_eim (fw : Nat) (r : Word) (s : State) : (setNZ fw r s).eim = s.eim := rfl
@[simp] theorem setNZ_iv (fw : Nat) (r : Word) (s : State) : (setNZ fw r s).iv = s.iv := rfl
@[simp] theorem setNZ_av (fw : Nat) (r : Word) (s : State) : (setNZ fw r s).av = s.av := rfl
@[simp] theorem setNZ_tv (fw : Nat) (r : Word) (s : State) : (setNZ fw r s).tv = s.tv := rfl
@[simp] theorem setNZ_tmv (fw : Nat) (r : Word) (s : State) : (setNZ fw r s).tmv = s.tmv := rfl
@[simp] theorem setNZ_ivAct (fw : Nat) (r : Word) (s : State) : (setNZ fw r s).ivAct = s.ivAct := rfl
@[simp] theorem setNZ_avAct (fw : Nat) (r : Word) (s : State) : (setNZ fw r s).avAct = s.avAct := rfl
@[simp] theorem setNZ_tvAct (fw : Nat) (r : Word) (s : State) : (setNZ fw r s).tvAct = s.tvAct := rfl
@[simp] theorem setNZ_mh (fw : Nat) (r : Word) (s : State) : (setNZ fw r s).mh = s.mh := rfl
@[simp] theorem setNZ_muCode (fw : Nat) (r : Word) (s : State) : (setNZ fw r s).muCode = s.muCode := rfl
@[simp] theorem setNZ_muUsel (fw : Nat) (r : Word) (s : State) : (setNZ fw r s).muUsel = s.muUsel := rfl
@[simp] theorem setNZ_cont (fw : Nat) (r : Word) (s : State) : (setNZ fw r s).cont = s.cont := rfl
@[simp] theorem setNZ_actCore (fw : Nat) (r : Word) (s : State) : (setNZ fw r s).actCore = s.actCore := rfl
@[simp] theorem setNZ_irqLine (fw : Nat) (r : Word) (s : State) : (setNZ fw r s).irqLine = s.irqLine := rfl
@[simp] theorem setNZ_nmiLine (fw : Nat) (r : Word) (s : State) : (setNZ fw r s).nmiLine = s.nmiLine := rfl
@[simp] theorem setNZ_nmiPend (fw : Nat) (r : Word) (s : State) : (setNZ fw r s).nmiPend = s.nmiPend := rfl
@[simp] theorem setNZ_link (fw : Nat) (r : Word) (s : State) : (setNZ fw r s).link = s.link := rfl
@[simp] theorem setNZ_run (fw : Nat) (r : Word) (s : State) : (setNZ fw r s).run = s.run := rfl
@[simp] theorem setNZ_mem (fw : Nat) (r : Word) (s : State) : (setNZ fw r s).mem = s.mem := rfl

/-! ### `setC` -/

@[simp] theorem setC_cfg (c : Bool) (s : State) : (setC c s).cfg = s.cfg := rfl
@[simp] theorem setC_a (c : Bool) (s : State) : (setC c s).a = s.a := rfl
@[simp] theorem setC_x (c : Bool) (s : State) : (setC c s).x = s.x := rfl
@[simp] theorem setC_y (c : Bool) (s : State) : (setC c s).y = s.y := rfl
@[simp] theorem setC_e (c : Bool) (s : State) : (setC c s).e = s.e := rfl
@[simp] theorem setC_b (c : Bool) (s : State) : (setC c s).b = s.b := rfl
@[simp] theorem setC_spu (c : Bool) (s : State) : (setC c s).spu = s.spu := rfl
@[simp] theorem setC_sph (c : Bool) (s : State) : (setC c s).sph = s.sph := rfl
@[simp] theorem setC_pc (c : Bool) (s : State) : (setC c s).pc = s.pc := rfl
@[simp] theorem setC_sr (c : Bool) (s : State) : (setC c s).sr = { s.sr with c := c } := rfl
@[simp] theorem setC_imr (c : Bool) (s : State) : (setC c s).imr = s.imr := rfl
@[simp] theorem setC_eim (c : Bool) (s : State) : (setC c s).eim = s.eim := rfl
@[simp] theorem setC_iv (c : Bool) (s : State) : (setC c s).iv = s.iv := rfl
@[simp] theorem setC_av (c : Bool) (s : State) : (setC c s).av = s.av := rfl
@[simp] theorem setC_tv (c : Bool) (s : State) : (setC c s).tv = s.tv := rfl
@[simp] theorem setC_tmv (c : Bool) (s : State) : (setC c s).tmv = s.tmv := rfl
@[simp] theorem setC_ivAct (c : Bool) (s : State) : (setC c s).ivAct = s.ivAct := rfl
@[simp] theorem setC_avAct (c : Bool) (s : State) : (setC c s).avAct = s.avAct := rfl
@[simp] theorem setC_tvAct (c : Bool) (s : State) : (setC c s).tvAct = s.tvAct := rfl
@[simp] theorem setC_mh (c : Bool) (s : State) : (setC c s).mh = s.mh := rfl
@[simp] theorem setC_muCode (c : Bool) (s : State) : (setC c s).muCode = s.muCode := rfl
@[simp] theorem setC_muUsel (c : Bool) (s : State) : (setC c s).muUsel = s.muUsel := rfl
@[simp] theorem setC_cont (c : Bool) (s : State) : (setC c s).cont = s.cont := rfl
@[simp] theorem setC_actCore (c : Bool) (s : State) : (setC c s).actCore = s.actCore := rfl
@[simp] theorem setC_irqLine (c : Bool) (s : State) : (setC c s).irqLine = s.irqLine := rfl
@[simp] theorem setC_nmiLine (c : Bool) (s : State) : (setC c s).nmiLine = s.nmiLine := rfl
@[simp] theorem setC_nmiPend (c : Bool) (s : State) : (setC c s).nmiPend = s.nmiPend := rfl
@[simp] theorem setC_link (c : Bool) (s : State) : (setC c s).link = s.link := rfl
@[simp] theorem setC_run (c : Bool) (s : State) : (setC c s).run = s.run := rfl
@[simp] theorem setC_mem (c : Bool) (s : State) : (setC c s).mem = s.mem := rfl

/-! ### `setV` -/

@[simp] theorem setV_cfg (v : Bool) (s : State) : (setV v s).cfg = s.cfg := rfl
@[simp] theorem setV_a (v : Bool) (s : State) : (setV v s).a = s.a := rfl
@[simp] theorem setV_x (v : Bool) (s : State) : (setV v s).x = s.x := rfl
@[simp] theorem setV_y (v : Bool) (s : State) : (setV v s).y = s.y := rfl
@[simp] theorem setV_e (v : Bool) (s : State) : (setV v s).e = s.e := rfl
@[simp] theorem setV_b (v : Bool) (s : State) : (setV v s).b = s.b := rfl
@[simp] theorem setV_spu (v : Bool) (s : State) : (setV v s).spu = s.spu := rfl
@[simp] theorem setV_sph (v : Bool) (s : State) : (setV v s).sph = s.sph := rfl
@[simp] theorem setV_pc (v : Bool) (s : State) : (setV v s).pc = s.pc := rfl
@[simp] theorem setV_sr (v : Bool) (s : State) : (setV v s).sr = { s.sr with v := v } := rfl
@[simp] theorem setV_imr (v : Bool) (s : State) : (setV v s).imr = s.imr := rfl
@[simp] theorem setV_eim (v : Bool) (s : State) : (setV v s).eim = s.eim := rfl
@[simp] theorem setV_iv (v : Bool) (s : State) : (setV v s).iv = s.iv := rfl
@[simp] theorem setV_av (v : Bool) (s : State) : (setV v s).av = s.av := rfl
@[simp] theorem setV_tv (v : Bool) (s : State) : (setV v s).tv = s.tv := rfl
@[simp] theorem setV_tmv (v : Bool) (s : State) : (setV v s).tmv = s.tmv := rfl
@[simp] theorem setV_ivAct (v : Bool) (s : State) : (setV v s).ivAct = s.ivAct := rfl
@[simp] theorem setV_avAct (v : Bool) (s : State) : (setV v s).avAct = s.avAct := rfl
@[simp] theorem setV_tvAct (v : Bool) (s : State) : (setV v s).tvAct = s.tvAct := rfl
@[simp] theorem setV_mh (v : Bool) (s : State) : (setV v s).mh = s.mh := rfl
@[simp] theorem setV_muCode (v : Bool) (s : State) : (setV v s).muCode = s.muCode := rfl
@[simp] theorem setV_muUsel (v : Bool) (s : State) : (setV v s).muUsel = s.muUsel := rfl
@[simp] theorem setV_cont (v : Bool) (s : State) : (setV v s).cont = s.cont := rfl
@[simp] theorem setV_actCore (v : Bool) (s : State) : (setV v s).actCore = s.actCore := rfl
@[simp] theorem setV_irqLine (v : Bool) (s : State) : (setV v s).irqLine = s.irqLine := rfl
@[simp] theorem setV_nmiLine (v : Bool) (s : State) : (setV v s).nmiLine = s.nmiLine := rfl
@[simp] theorem setV_nmiPend (v : Bool) (s : State) : (setV v s).nmiPend = s.nmiPend := rfl
@[simp] theorem setV_link (v : Bool) (s : State) : (setV v s).link = s.link := rfl
@[simp] theorem setV_run (v : Bool) (s : State) : (setV v s).run = s.run := rfl
@[simp] theorem setV_mem (v : Bool) (s : State) : (setV v s).mem = s.mem := rfl

/-! ### `setZ` -/

@[simp] theorem setZ_cfg (z : Bool) (s : State) : (setZ z s).cfg = s.cfg := rfl
@[simp] theorem setZ_a (z : Bool) (s : State) : (setZ z s).a = s.a := rfl
@[simp] theorem setZ_x (z : Bool) (s : State) : (setZ z s).x = s.x := rfl
@[simp] theorem setZ_y (z : Bool) (s : State) : (setZ z s).y = s.y := rfl
@[simp] theorem setZ_e (z : Bool) (s : State) : (setZ z s).e = s.e := rfl
@[simp] theorem setZ_b (z : Bool) (s : State) : (setZ z s).b = s.b := rfl
@[simp] theorem setZ_spu (z : Bool) (s : State) : (setZ z s).spu = s.spu := rfl
@[simp] theorem setZ_sph (z : Bool) (s : State) : (setZ z s).sph = s.sph := rfl
@[simp] theorem setZ_pc (z : Bool) (s : State) : (setZ z s).pc = s.pc := rfl
@[simp] theorem setZ_sr (z : Bool) (s : State) : (setZ z s).sr = { s.sr with z := z } := rfl
@[simp] theorem setZ_imr (z : Bool) (s : State) : (setZ z s).imr = s.imr := rfl
@[simp] theorem setZ_eim (z : Bool) (s : State) : (setZ z s).eim = s.eim := rfl
@[simp] theorem setZ_iv (z : Bool) (s : State) : (setZ z s).iv = s.iv := rfl
@[simp] theorem setZ_av (z : Bool) (s : State) : (setZ z s).av = s.av := rfl
@[simp] theorem setZ_tv (z : Bool) (s : State) : (setZ z s).tv = s.tv := rfl
@[simp] theorem setZ_tmv (z : Bool) (s : State) : (setZ z s).tmv = s.tmv := rfl
@[simp] theorem setZ_ivAct (z : Bool) (s : State) : (setZ z s).ivAct = s.ivAct := rfl
@[simp] theorem setZ_avAct (z : Bool) (s : State) : (setZ z s).avAct = s.avAct := rfl
@[simp] theorem setZ_tvAct (z : Bool) (s : State) : (setZ z s).tvAct = s.tvAct := rfl
@[simp] theorem setZ_mh (z : Bool) (s : State) : (setZ z s).mh = s.mh := rfl
@[simp] theorem setZ_muCode (z : Bool) (s : State) : (setZ z s).muCode = s.muCode := rfl
@[simp] theorem setZ_muUsel (z : Bool) (s : State) : (setZ z s).muUsel = s.muUsel := rfl
@[simp] theorem setZ_cont (z : Bool) (s : State) : (setZ z s).cont = s.cont := rfl
@[simp] theorem setZ_actCore (z : Bool) (s : State) : (setZ z s).actCore = s.actCore := rfl
@[simp] theorem setZ_irqLine (z : Bool) (s : State) : (setZ z s).irqLine = s.irqLine := rfl
@[simp] theorem setZ_nmiLine (z : Bool) (s : State) : (setZ z s).nmiLine = s.nmiLine := rfl
@[simp] theorem setZ_nmiPend (z : Bool) (s : State) : (setZ z s).nmiPend = s.nmiPend := rfl
@[simp] theorem setZ_link (z : Bool) (s : State) : (setZ z s).link = s.link := rfl
@[simp] theorem setZ_run (z : Bool) (s : State) : (setZ z s).run = s.run := rfl
@[simp] theorem setZ_mem (z : Bool) (s : State) : (setZ z s).mem = s.mem := rfl

/-! ### `State.setReg` -/

@[simp] theorem State.setReg_cfg (s : State) (r : Reg) (v : Word) : (s.setReg r v).cfg = s.cfg := by cases r <;> rfl
@[simp] theorem State.setReg_a_a (s : State) (v : Word) : (s.setReg .a v).a = low s.w v := rfl
@[simp] theorem State.setReg_x_a (s : State) (v : Word) : (s.setReg .x v).a = s.a := rfl
@[simp] theorem State.setReg_y_a (s : State) (v : Word) : (s.setReg .y v).a = s.a := rfl
@[simp] theorem State.setReg_e_a (s : State) (v : Word) : (s.setReg .e v).a = s.a := rfl
@[simp] theorem State.setReg_b_a (s : State) (v : Word) : (s.setReg .b v).a = s.a := rfl
@[simp] theorem State.setReg_a_x (s : State) (v : Word) : (s.setReg .a v).x = s.x := rfl
@[simp] theorem State.setReg_x_x (s : State) (v : Word) : (s.setReg .x v).x = low s.w v := rfl
@[simp] theorem State.setReg_y_x (s : State) (v : Word) : (s.setReg .y v).x = s.x := rfl
@[simp] theorem State.setReg_e_x (s : State) (v : Word) : (s.setReg .e v).x = s.x := rfl
@[simp] theorem State.setReg_b_x (s : State) (v : Word) : (s.setReg .b v).x = s.x := rfl
@[simp] theorem State.setReg_a_y (s : State) (v : Word) : (s.setReg .a v).y = s.y := rfl
@[simp] theorem State.setReg_x_y (s : State) (v : Word) : (s.setReg .x v).y = s.y := rfl
@[simp] theorem State.setReg_y_y (s : State) (v : Word) : (s.setReg .y v).y = low s.w v := rfl
@[simp] theorem State.setReg_e_y (s : State) (v : Word) : (s.setReg .e v).y = s.y := rfl
@[simp] theorem State.setReg_b_y (s : State) (v : Word) : (s.setReg .b v).y = s.y := rfl
@[simp] theorem State.setReg_a_e (s : State) (v : Word) : (s.setReg .a v).e = s.e := rfl
@[simp] theorem State.setReg_x_e (s : State) (v : Word) : (s.setReg .x v).e = s.e := rfl
@[simp] theorem State.setReg_y_e (s : State) (v : Word) : (s.setReg .y v).e = s.e := rfl
@[simp] theorem State.setReg_e_e (s : State) (v : Word) : (s.setReg .e v).e = low s.w v := rfl
@[simp] theorem State.setReg_b_e (s : State) (v : Word) : (s.setReg .b v).e = s.e := rfl
@[simp] theorem State.setReg_a_b (s : State) (v : Word) : (s.setReg .a v).b = s.b := rfl
@[simp] theorem State.setReg_x_b (s : State) (v : Word) : (s.setReg .x v).b = s.b := rfl
@[simp] theorem State.setReg_y_b (s : State) (v : Word) : (s.setReg .y v).b = s.b := rfl
@[simp] theorem State.setReg_e_b (s : State) (v : Word) : (s.setReg .e v).b = s.b := rfl
@[simp] theorem State.setReg_b_b (s : State) (v : Word) : (s.setReg .b v).b = low s.w v := rfl
@[simp] theorem State.setReg_spu (s : State) (r : Reg) (v : Word) : (s.setReg r v).spu = s.spu := by cases r <;> rfl
@[simp] theorem State.setReg_sph (s : State) (r : Reg) (v : Word) : (s.setReg r v).sph = s.sph := by cases r <;> rfl
@[simp] theorem State.setReg_pc (s : State) (r : Reg) (v : Word) : (s.setReg r v).pc = s.pc := by cases r <;> rfl
@[simp] theorem State.setReg_sr (s : State) (r : Reg) (v : Word) : (s.setReg r v).sr = s.sr := by cases r <;> rfl
@[simp] theorem State.setReg_imr (s : State) (r : Reg) (v : Word) : (s.setReg r v).imr = s.imr := by cases r <;> rfl
@[simp] theorem State.setReg_eim (s : State) (r : Reg) (v : Word) : (s.setReg r v).eim = s.eim := by cases r <;> rfl
@[simp] theorem State.setReg_iv (s : State) (r : Reg) (v : Word) : (s.setReg r v).iv = s.iv := by cases r <;> rfl
@[simp] theorem State.setReg_av (s : State) (r : Reg) (v : Word) : (s.setReg r v).av = s.av := by cases r <;> rfl
@[simp] theorem State.setReg_tv (s : State) (r : Reg) (v : Word) : (s.setReg r v).tv = s.tv := by cases r <;> rfl
@[simp] theorem State.setReg_tmv (s : State) (r : Reg) (v : Word) : (s.setReg r v).tmv = s.tmv := by cases r <;> rfl
@[simp] theorem State.setReg_ivAct (s : State) (r : Reg) (v : Word) : (s.setReg r v).ivAct = s.ivAct := by cases r <;> rfl
@[simp] theorem State.setReg_avAct (s : State) (r : Reg) (v : Word) : (s.setReg r v).avAct = s.avAct := by cases r <;> rfl
@[simp] theorem State.setReg_tvAct (s : State) (r : Reg) (v : Word) : (s.setReg r v).tvAct = s.tvAct := by cases r <;> rfl
@[simp] theorem State.setReg_mh (s : State) (r : Reg) (v : Word) : (s.setReg r v).mh = s.mh := by cases r <;> rfl
@[simp] theorem State.setReg_muCode (s : State) (r : Reg) (v : Word) : (s.setReg r v).muCode = s.muCode := by cases r <;> rfl
@[simp] theorem State.setReg_muUsel (s : State) (r : Reg) (v : Word) : (s.setReg r v).muUsel = s.muUsel := by cases r <;> rfl
@[simp] theorem State.setReg_cont (s : State) (r : Reg) (v : Word) : (s.setReg r v).cont = s.cont := by cases r <;> rfl
@[simp] theorem State.setReg_actCore (s : State) (r : Reg) (v : Word) : (s.setReg r v).actCore = s.actCore := by cases r <;> rfl
@[simp] theorem State.setReg_irqLine (s : State) (r : Reg) (v : Word) : (s.setReg r v).irqLine = s.irqLine := by cases r <;> rfl
@[simp] theorem State.setReg_nmiLine (s : State) (r : Reg) (v : Word) : (s.setReg r v).nmiLine = s.nmiLine := by cases r <;> rfl
@[simp] theorem State.setReg_nmiPend (s : State) (r : Reg) (v : Word) : (s.setReg r v).nmiPend = s.nmiPend := by cases r <;> rfl
@[simp] theorem State.setReg_link (s : State) (r : Reg) (v : Word) : (s.setReg r v).link = s.link := by cases r <;> rfl
@[simp] theorem State.setReg_run (s : State) (r : Reg) (v : Word) : (s.setReg r v).run = s.run := by cases r <;> rfl
@[simp] theorem State.setReg_mem (s : State) (r : Reg) (v : Word) : (s.setReg r v).mem = s.mem := by cases r <;> rfl

/-- A register that was just written holds the low `W` bits of what was written. -/
@[simp] theorem State.reg_setReg_same (s : State) (r : Reg) (v : Word) : (s.setReg r v).reg r = low s.w v := by
  cases r <;> rfl

/-- Writing one register keeps the others. -/
theorem State.reg_setReg_other (s : State) {q r : Reg} (v : Word) (h : q ≠ r) : (s.setReg r v).reg q = s.reg q := by
  cases q <;> cases r <;> first | rfl | exact absurd rfl h

/-! ### `State.setSp` -/

@[simp] theorem State.setSp_cfg (s : State) (env : Env) (v : Word) : (s.setSp env v).cfg = s.cfg := by cases env <;> rfl
@[simp] theorem State.setSp_a (s : State) (env : Env) (v : Word) : (s.setSp env v).a = s.a := by cases env <;> rfl
@[simp] theorem State.setSp_x (s : State) (env : Env) (v : Word) : (s.setSp env v).x = s.x := by cases env <;> rfl
@[simp] theorem State.setSp_y (s : State) (env : Env) (v : Word) : (s.setSp env v).y = s.y := by cases env <;> rfl
@[simp] theorem State.setSp_e (s : State) (env : Env) (v : Word) : (s.setSp env v).e = s.e := by cases env <;> rfl
@[simp] theorem State.setSp_b (s : State) (env : Env) (v : Word) : (s.setSp env v).b = s.b := by cases env <;> rfl
@[simp] theorem State.setSp_user_spu (s : State) (v : Word) : (s.setSp .user v).spu = low s.w v := rfl
@[simp] theorem State.setSp_hyp_spu (s : State) (v : Word) : (s.setSp .hyp v).spu = s.spu := rfl
@[simp] theorem State.setSp_user_sph (s : State) (v : Word) : (s.setSp .user v).sph = s.sph := rfl
@[simp] theorem State.setSp_hyp_sph (s : State) (v : Word) : (s.setSp .hyp v).sph = low s.w v := rfl
@[simp] theorem State.setSp_pc (s : State) (env : Env) (v : Word) : (s.setSp env v).pc = s.pc := by cases env <;> rfl
@[simp] theorem State.setSp_sr (s : State) (env : Env) (v : Word) : (s.setSp env v).sr = s.sr := by cases env <;> rfl
@[simp] theorem State.setSp_imr (s : State) (env : Env) (v : Word) : (s.setSp env v).imr = s.imr := by cases env <;> rfl
@[simp] theorem State.setSp_eim (s : State) (env : Env) (v : Word) : (s.setSp env v).eim = s.eim := by cases env <;> rfl
@[simp] theorem State.setSp_iv (s : State) (env : Env) (v : Word) : (s.setSp env v).iv = s.iv := by cases env <;> rfl
@[simp] theorem State.setSp_av (s : State) (env : Env) (v : Word) : (s.setSp env v).av = s.av := by cases env <;> rfl
@[simp] theorem State.setSp_tv (s : State) (env : Env) (v : Word) : (s.setSp env v).tv = s.tv := by cases env <;> rfl
@[simp] theorem State.setSp_tmv (s : State) (env : Env) (v : Word) : (s.setSp env v).tmv = s.tmv := by cases env <;> rfl
@[simp] theorem State.setSp_ivAct (s : State) (env : Env) (v : Word) : (s.setSp env v).ivAct = s.ivAct := by cases env <;> rfl
@[simp] theorem State.setSp_avAct (s : State) (env : Env) (v : Word) : (s.setSp env v).avAct = s.avAct := by cases env <;> rfl
@[simp] theorem State.setSp_tvAct (s : State) (env : Env) (v : Word) : (s.setSp env v).tvAct = s.tvAct := by cases env <;> rfl
@[simp] theorem State.setSp_mh (s : State) (env : Env) (v : Word) : (s.setSp env v).mh = s.mh := by cases env <;> rfl
@[simp] theorem State.setSp_muCode (s : State) (env : Env) (v : Word) : (s.setSp env v).muCode = s.muCode := by cases env <;> rfl
@[simp] theorem State.setSp_muUsel (s : State) (env : Env) (v : Word) : (s.setSp env v).muUsel = s.muUsel := by cases env <;> rfl
@[simp] theorem State.setSp_cont (s : State) (env : Env) (v : Word) : (s.setSp env v).cont = s.cont := by cases env <;> rfl
@[simp] theorem State.setSp_actCore (s : State) (env : Env) (v : Word) : (s.setSp env v).actCore = s.actCore := by cases env <;> rfl
@[simp] theorem State.setSp_irqLine (s : State) (env : Env) (v : Word) : (s.setSp env v).irqLine = s.irqLine := by cases env <;> rfl
@[simp] theorem State.setSp_nmiLine (s : State) (env : Env) (v : Word) : (s.setSp env v).nmiLine = s.nmiLine := by cases env <;> rfl
@[simp] theorem State.setSp_nmiPend (s : State) (env : Env) (v : Word) : (s.setSp env v).nmiPend = s.nmiPend := by cases env <;> rfl
@[simp] theorem State.setSp_link (s : State) (env : Env) (v : Word) : (s.setSp env v).link = s.link := by cases env <;> rfl
@[simp] theorem State.setSp_run (s : State) (env : Env) (v : Word) : (s.setSp env v).run = s.run := by cases env <;> rfl
@[simp] theorem State.setSp_mem (s : State) (env : Env) (v : Word) : (s.setSp env v).mem = s.mem := by cases env <;> rfl

/-- The stack pointer just written. -/
@[simp] theorem State.sp_setSp_same (s : State) (env : Env) (v : Word) : (s.setSp env v).sp env = low s.w v := by
  cases env <;> rfl

/-! ### Derived readings -/

@[simp] theorem State.setPc_sp (s : State) (v : Word) (env : Env) : (s.setPc v).sp env = s.sp env := by cases env <;> rfl
@[simp] theorem State.setReg_sp (s : State) (r : Reg) (v : Word) (env : Env) : (s.setReg r v).sp env = s.sp env := by
  cases r <;> cases env <;> rfl
@[simp] theorem State.setPc_reg (s : State) (v : Word) (r : Reg) : (s.setPc v).reg r = s.reg r := by cases r <;> rfl
@[simp] theorem State.setSp_reg (s : State) (env : Env) (v : Word) (r : Reg) : (s.setSp env v).reg r = s.reg r := by
  cases r <;> cases env <;> rfl
@[simp] theorem State.setPc_denv (s : State) (v : Word) (p : Pfx) : (s.setPc v).denv p = s.denv p := rfl
@[simp] theorem State.setReg_denv (s : State) (r : Reg) (v : Word) (p : Pfx) : (s.setReg r v).denv p = s.denv p := by
  cases r <;> rfl

/-- The states that an update of anything but the parameters gives have the same `W`. -/
theorem State.w_eq_of_cfg {s t : State} (h : t.cfg = s.cfg) : t.w = s.w := by simp [State.w, h]

@[simp] theorem State.setH_w (s : State) (v : Bool) : (s.setH v).w = s.w := rfl
@[simp] theorem State.setP_w (s : State) (v : Bool) : (s.setP v).w = s.w := rfl
@[simp] theorem State.setSf_w (s : State) (v : BitVec 2) : (s.setSf v).w = s.w := rfl
@[simp] theorem State.setI_w (s : State) (v : Bool) : (s.setI v).w = s.w := rfl
@[simp] theorem State.setEim_w (s : State) (v : BitVec 3) : (s.setEim v).w = s.w := rfl
@[simp] theorem State.unlink_w (s : State) : (s.unlink).w = s.w := rfl
@[simp] theorem State.setPc_w (s : State) (v : Word) : (s.setPc v).w = s.w := rfl
@[simp] theorem State.resume_w (s : State) : (s.resume).w = s.w := rfl
@[simp] theorem State.stopCore_w (s : State) : (s.stopCore).w = s.w := rfl
@[simp] theorem setNZ_w (fw : Nat) (r : Word) (s : State) : (setNZ fw r s).w = s.w := rfl
@[simp] theorem setC_w (c : Bool) (s : State) : (setC c s).w = s.w := rfl
@[simp] theorem setV_w (v : Bool) (s : State) : (setV v s).w = s.w := rfl
@[simp] theorem setZ_w (z : Bool) (s : State) : (setZ z s).w = s.w := rfl
@[simp] theorem State.setReg_w (s : State) (r : Reg) (v : Word) : (s.setReg r v).w = s.w := by cases r <;> rfl
@[simp] theorem State.setSp_w (s : State) (env : Env) (v : Word) : (s.setSp env v).w = s.w := by cases env <;> rfl

end Sys2Proof.Machine
end

