-- ==== Sys2Proof/Laws/Inputs.lean ====
section
/-! SUPPORT. What starting, stopping and resetting a core do to its run state and to MC_ACTCORE (R53, R74, R740, R745). -/

namespace Sys2Proof.Machine

/-- A register has at most 64 bits. -/
theorem State.w_le (s : State) : s.w ≤ 64 := by unfold State.w; cases s.cfg.width <;> decide

/-- The bit of core `k` is bit `k`. -/
@[simp] theorem coreBit_getLsbD (k j : Nat) : (coreBit k).getLsbD j = (decide (j < 64) && decide (j = k)) := by
  by_cases h : j = k
  · simp [coreBit, h]
  · have : j < k ∨ j - k ≠ 0 := by omega
    rcases this with h1 | h1 <;> simp [coreBit, h, h1]

/-- A write of MC_ACTCORE bit by bit: the writer's own bit stays, another core that exists takes its bit of the value, but a 0
in the bit of core 0 stays. -/
theorem newActCore_getLsbD (s : State) (writer : Nat) (v : Word) {j : Nat} (hj : j < s.w) :
    (newActCore s writer v).getLsbD j =
      if j = writer then s.actCore.getLsbD j
      else decide (j < s.cfg.ncore) && v.getLsbD j && (s.actCore.getLsbD j || decide (j ≠ 0)) := by
  have h64 : j < 64 := Nat.lt_of_lt_of_le hj s.w_le
  simp only [newActCore, BitVec.getLsbD_or, BitVec.getLsbD_and, BitVec.getLsbD_not, low_getLsbD, coreBit_getLsbD,
    BitVec.getLsbD_allOnes, h64, hj, decide_true, Bool.true_and, Bool.and_true]
  by_cases h : j = writer <;> simp [h, Bool.and_left_comm, Bool.and_assoc]

/-- A stopped core has a 0 in its bit. -/
theorem stopCore_activityOk (s : State) : s.stopCore.activityOk = true := by simp [State.activityOk]

/-- A started core has a 1 in its bit, if it has one. -/
theorem startCore_activityOk (s : State) : s.startCore.activityOk = true := by
  by_cases h : s.w ≤ s.cfg.myCore
  · exact Bool.or_eq_true _ _ ▸ .inl (decide_eq_true h)
  · have h1 : s.cfg.myCore < s.w := Nat.lt_of_not_le h
    have h2 : s.cfg.myCore < 64 := Nat.lt_of_lt_of_le h1 s.w_le
    have hb : s.startCore.actCore.getLsbD s.cfg.myCore = true := by
      simp only [State.startCore, low_getLsbD, BitVec.getLsbD_or, coreBit_getLsbD, h1, h2, decide_true, Bool.and_true,
        Bool.or_true]
    exact Bool.or_eq_true _ _ ▸ .inr (by rw [show s.startCore.cfg = s.cfg from rfl, hb]; rfl)

/-- A started core keeps the global registers, the containers and memory (R77, R745), and `TMV` (log entry 26). -/
theorem startCore_keeps (s : State) : s.startCore.imr = s.imr ∧ s.startCore.eim = s.eim ∧ s.startCore.iv = s.iv ∧
    s.startCore.av = s.av ∧ s.startCore.tv = s.tv ∧ s.startCore.tmv = s.tmv ∧ s.startCore.cont = s.cont ∧
    s.startCore.mem = s.mem := ⟨rfl, rfl, rfl, rfl, rfl, rfl, rfl, rfl⟩

/-- After a reset core 0 alone has a 1 in its bit and runs (R74). -/
theorem applyReset_activityOk (s : State) : s.applyReset.activityOk = true := by
  by_cases h : s.cfg.myCore = 0 <;> simp [State.activityOk, State.applyReset, State.reset, h]

/-- All that another core's write of MC_ACTCORE can do to this core: nothing, write the register alone, stop it, or start it
if it is stopped and not core 0 (R53, R637, R716, R745). -/
theorem actCoreWrite_cases (s : State) (writer : Nat) (v : Word) :
    let t := { s with actCore := newActCore s writer v }
    (s.actCoreWrite writer v = s ∧ (writer = s.cfg.myCore ∨ s.cfg.ncore ≤ writer)) ∨
      (s.actCoreWrite writer v = t ∧ (s.w ≤ s.cfg.myCore ∨
        t.actCore.getLsbD s.cfg.myCore = true ∧ s.run ≠ .stopped)) ∨
      (s.actCoreWrite writer v = t.stopCore ∧
        (t.actCore.getLsbD s.cfg.myCore = false ∨ s.run = .stopped ∧ s.cfg.myCore = 0)) ∨
      (s.actCoreWrite writer v = t.startCore ∧ s.run = .stopped ∧ s.cfg.myCore ≠ 0) := by
  simp only [State.actCoreWrite]
  split
  · exact .inl ⟨rfl, ‹_›⟩
  · split
    · exact .inr (.inl ⟨rfl, .inl ‹_›⟩)
    · split
      · exact .inr (.inr (.inl ⟨rfl, ‹_›⟩))
      · split
        · exact .inr (.inr (.inr ⟨rfl, ‹_›, fun h => by simp_all⟩))
        · exact .inr (.inl ⟨rfl, .inr (by simp_all)⟩)

/-- It leaves the run state as the core's bit says. -/
theorem actCoreWrite_activityOk {s : State} (h : s.activityOk = true) (writer : Nat) (v : Word) :
    (s.actCoreWrite writer v).activityOk = true := by
  rcases actCoreWrite_cases s writer v with ⟨e, _⟩ | ⟨e, hw | ⟨hb, hr⟩⟩ | ⟨e, _⟩ | ⟨e, _⟩ <;> rw [e]
  · exact h
  · exact Bool.or_eq_true _ _ ▸ .inl (decide_eq_true hw)
  · simp only [State.activityOk, Bool.or_eq_true]
    exact .inr (by cases hrun : s.run <;> simp_all)
  · exact stopCore_activityOk _
  · exact startCore_activityOk _

/-- No write of another core makes a stopped core 0 run (R637). -/
theorem actCoreWrite_core0 {s : State} (h0 : s.cfg.myCore = 0) (hr : s.run = .stopped) (writer : Nat) (v : Word) :
    (s.actCoreWrite writer v).run = .stopped := by
  rcases actCoreWrite_cases s writer v with ⟨e, _⟩ | ⟨e, _⟩ | ⟨e, _⟩ | ⟨_, _, hc⟩
  · rw [e]; exact hr
  · rw [e]; exact hr
  · rw [e]; rfl
  · exact absurd h0 hc

end Sys2Proof.Machine
end

