-- ==== Sys2Proof/Laws/Ops.lean ====
section
/-! SUPPORT. What each shared operation of Machine/Ops.lean (and the extension that TXS and TYS share) can do, said once: the
fields it may change, and that every memory operation keeps the canonical form. -/

namespace Sys2Proof.Machine

/-! ### Translation -/

/-- Translation looks at the parameters, the containers and the match codes only. -/
theorem translate_congr {s t : State} (hc : t.cfg = s.cfg) (hk : t.cont = s.cont) (hh : t.mh = s.mh)
    (hu : t.muCode = s.muCode) (env : Env) (ea : Word) (k : Access) : translate t env ea k = translate s env ea k := by
  have : t.matchCode env = s.matchCode env := by cases env <;> simp [State.matchCode, hh, hu]
  simp [translate, hc, hk, this]

/-- So does finding a byte. -/
theorem locate_congr {s t : State} (hc : t.cfg = s.cfg) (hk : t.cont = s.cont) (hh : t.mh = s.mh)
    (hu : t.muCode = s.muCode) (env : Env) (ea : Word) (k : Access) : locate t env ea k = locate s env ea k := by
  have hv : ∀ p, t.isVacant p = s.isVacant p := fun p => by simp [State.isVacant, hc]
  simp only [locate, translate_congr hc hk hh hu, hv]

/-- A read or a fetch is never dropped: the search answers nothing for a write only (R123). -/
theorem searchContainers_some (env : Env) (ea key : Word) {k : Access} (hk : k ≠ .write) :
    ∀ (cs : List Container) (b : Bool), searchContainers env ea key k cs b ≠ .ok none
  | [], b => by cases b <;> simp [searchContainers]
  | c :: cs, b => by
    have hkw : (k == .write) = false := by cases k <;> first | rfl | exact absurd rfl hk
    simp only [searchContainers, hkw, Bool.false_and, Bool.false_eq_true, if_false]
    split
    · split
      · exact searchContainers_some env ea key hk cs true
      · split
        · simp
        · split <;> simp
    · exact searchContainers_some env ea key hk cs b

/-- A read or a fetch is never dropped (R123). -/
theorem translate_some {s : State} {env : Env} {ea : Word} {k : Access} (hk : k ≠ .write) : translate s env ea k ≠ .ok none := by
  unfold translate; split
  · simp
  · exact searchContainers_some env ea _ hk _ _

/-! ### Reading -/

/-- A value read from `k` bytes is below `2^(8k)`. -/
theorem readBytes_length (s : State) (env : Env) : ∀ (k : Nat) (ea : Word) {bs : List Byte},
    readBytes s env ea k = .ok bs → bs.length = k
  | 0, _, _, h => by cases h; rfl
  | k + 1, ea, bs, h => by
    unfold readBytes at h
    split at h
    · cases h
    · split at h
      · cases h
      · rename_i hr
        cases h
        simp [readBytes_length s env k _ hr]

/-- A value read from `k` bytes is below `2^(8k)`. -/
theorem memRead_lt {s : State} {env : Env} {ea : Word} {k : Nat} {v : Word} (h : memRead s env ea k = .ok v) :
    v.toNat < 2 ^ (8 * k) := by
  unfold memRead at h
  split at h
  · cases h
  · rename_i hr
    cases h
    have := readBytes_length s env k _ hr
    rw [← this]; exact ofBytes_lt _

/-- A read that does not complete leaves memory alone. -/
theorem memRead_error {s : State} {env : Env} {ea : Word} {k : Nat} {h : Halt} (e : memRead s env ea k = .error h) :
    h.mem = s.mem := by
  unfold memRead at e
  split at e
  · cases e; rfl
  · cases e

/-! ### Writing -/

/-- What a write of one byte can do: change that byte of memory, and nothing else. -/
theorem writeByte_ok {s t : State} {env : Env} {ea : Word} {v : Byte} (h : writeByte s env ea v = .ok t) :
    (locate s env ea .write = .ok none ∧ t = s) ∨
    ∃ p, locate s env ea .write = .ok (some p) ∧ t = { s with mem := s.mem.store p v } := by
  unfold writeByte at h
  split at h
  · cases h
  · rename_i hl; cases h; exact .inl ⟨hl, rfl⟩
  · rename_i p hl; cases h; exact .inr ⟨p, hl, rfl⟩

/-- A byte that cannot be written leaves memory alone. -/
theorem writeByte_error {s : State} {env : Env} {ea : Word} {v : Byte} {h : Halt} (e : writeByte s env ea v = .error h) :
    h.mem = s.mem := by
  unfold writeByte at e
  split at e
  · cases e; rfl
  · cases e
  · cases e

/-- Writing bytes changes memory only. -/
theorem writeBytes_ok (env : Env) : ∀ (vs : List Byte) {s t : State} {ea : Word}, writeBytes s env ea vs = .ok t →
    t = { s with mem := t.mem }
  | [], s, t, _, h => by cases h; rfl
  | v :: vs, s, t, ea, h => by
    unfold writeBytes at h
    split at h
    · cases h
    · rename_i u hu
      have ih := writeBytes_ok env vs h
      rcases writeByte_ok hu with ⟨-, rfl⟩ | ⟨p, -, rfl⟩
      · exact ih
      · rw [ih]

/-- A memory write changes memory only. -/
theorem memWrite_ok {s t : State} {env : Env} {ea : Word} {k : Nat} {v : Word} (h : memWrite s env ea k v = .ok t) :
    t = { s with mem := t.mem } := writeBytes_ok env _ h

/-- A property of memory that every write of a located byte keeps holds after a memory write, complete or stopped. -/
theorem writeBytes_keeps (env : Env) (P : Memory → Prop) : ∀ (vs : List Byte) {s : State} {ea : Word}, low s.w ea = ea → P s.mem →
    (∀ (m : Memory) a p v, low s.w a = a → locate s env a .write = .ok (some p) → P m → P (m.store p v)) →
    (∀ {t}, writeBytes s env ea vs = .ok t → P t.mem) ∧ (∀ {h}, writeBytes s env ea vs = .error h → P h.mem)
  | [], s, ea, _, hP, _ => by
    constructor
    · intro t h; cases h; exact hP
    · intro h e; cases e
  | v :: vs, s, ea, hea, hP, hstep => by
    unfold writeBytes
    cases hw : writeByte s env ea v with
    | error h =>
      constructor
      · intro t h'; cases h'
      · intro h' e; cases e; rw [writeByte_error hw]; exact hP
    | ok u =>
      have hlow : low s.w (low s.w (ea + 1)) = low s.w (ea + 1) := low_low _ _
      rcases writeByte_ok hw with ⟨-, rfl⟩ | ⟨p, hl, rfl⟩
      · exact writeBytes_keeps env P vs hlow hP hstep
      · refine writeBytes_keeps env P vs (s := { s with mem := s.mem.store p v }) hlow (hstep _ _ _ _ hea hl hP) ?_
        intro m a q x ha hq hm
        exact hstep m a q x ha ((locate_congr (s := s) rfl rfl rfl rfl env a .write) ▸ hq) hm

/-- A memory write keeps the canonical form, complete or stopped. -/
theorem memWrite_wf {s : State} {env : Env} {ea : Word} {k : Nat} {v : Word} (hm : s.mem.wf = true) :
    (∀ {t}, memWrite s env ea k v = .ok t → t.mem.wf = true) ∧ (∀ {h}, memWrite s env ea k v = .error h → h.mem.wf = true) :=
  writeBytes_keeps env (fun m => m.wf = true) _ (low_low _ _) hm fun _ _ p v _ _ h => Memory.wf_store h p v

/-! ### Stack -/

/-- `t` differs from `s` in memory and in the stack pointer of `env`, which is `W` bits wide if it moved. -/
structure StackMoved (env : Env) (s t : State) : Prop where
  /-- nothing but memory and the stack pointers changed -/
  eq : t = { s with mem := t.mem, spu := t.spu, sph := t.sph }
  /-- a user access keeps `SPH` -/
  sph : env = .user → t.sph = s.sph
  /-- any other access keeps `SPU` -/
  spu : env ≠ .user → t.spu = s.spu
  /-- the pointer that moved is `W` bits wide -/
  fits : t.sp env = s.sp env ∨ low s.w (t.sp env) = t.sp env

/-- Nothing moved. -/
theorem StackMoved.refl (env : Env) (s : State) : StackMoved env s s := ⟨rfl, fun _ => rfl, fun _ => rfl, .inl rfl⟩

/-- One move after another. -/
theorem StackMoved.trans {env : Env} {s t u : State} (h : StackMoved env s t) (k : StackMoved env t u) : StackMoved env s u where
  eq := by rw [k.eq, h.eq]
  sph e := (k.sph e).trans (h.sph e)
  spu e := (k.spu e).trans (h.spu e)
  fits := by
    have hw : t.w = s.w := by rw [h.eq]; rfl
    rcases k.fits with e | e
    · rw [e]; exact h.fits
    · exact .inr (hw ▸ e)

/-- A new value of the stack pointer, with any memory. -/
theorem StackMoved.set (env : Env) (s : State) (m : Memory) (v : Word) :
    StackMoved env s (State.setSp { s with mem := m } env v) := by
  cases env <;> exact ⟨rfl, by simp [State.setSp], by simp [State.setSp], .inr (by simp [State.setSp, State.sp, State.w])⟩

/-- A push changes memory and the stack pointer of its environment. -/
theorem pushBytes_ok (env : Env) : ∀ (vs : List Byte) {s t : State}, pushBytes s env vs = .ok t → StackMoved env s t
  | [], s, t, h => by cases h; exact .refl env s
  | v :: vs, s, t, h => by
    unfold pushBytes at h
    split at h
    · cases h
    · rename_i u hu
      refine StackMoved.trans ?_ (pushBytes_ok env vs h)
      rcases writeByte_ok hu with ⟨-, rfl⟩ | ⟨p, -, rfl⟩
      · exact .set env u u.mem _
      · exact .set env s _ _

/-- A push changes memory and the stack pointer of its environment. -/
theorem push_ok {s t : State} {env : Env} {k : Nat} {v : Word} (h : push s env k v = .ok t) : StackMoved env s t :=
  pushBytes_ok env _ h

/-- A property of memory that every write of a located byte keeps holds after a push, complete or stopped. -/
theorem pushBytes_keeps (env : Env) (P : Memory → Prop) : ∀ (vs : List Byte) {s : State}, P s.mem →
    (∀ (m : Memory) a p v, low s.w a = a → locate s env a .write = .ok (some p) → P m → P (m.store p v)) →
    (∀ {t}, pushBytes s env vs = .ok t → P t.mem) ∧ (∀ {h}, pushBytes s env vs = .error h → P h.mem)
  | [], s, hP, _ => by
    constructor
    · intro t h; cases h; exact hP
    · intro h e; cases e
  | v :: vs, s, hP, hstep => by
    unfold pushBytes
    cases hw : writeByte s env (low s.w (s.sp env)) v with
    | error h =>
      constructor
      · intro t h'; cases h'
      · intro h' e; cases e; rw [writeByte_error hw]; exact hP
    | ok u =>
      rcases writeByte_ok hw with ⟨-, rfl⟩ | ⟨p, hl, rfl⟩
      · refine pushBytes_keeps env P vs (by simpa using hP) ?_
        intro m a q x ha hq hm
        refine hstep m a q x (by simpa using ha) ?_ hm
        rw [← hq]; exact (locate_congr (by simp) (by simp) (by simp) (by simp) env a .write).symm
      · refine pushBytes_keeps env P vs (by simpa using hstep _ _ _ _ (low_low _ _) hl hP) ?_
        intro m a q x ha hq hm
        refine hstep m a q x (by simpa [State.w] using ha) ?_ hm
        rw [← hq]; exact (locate_congr (by simp) (by simp) (by simp) (by simp) env a .write).symm

/-- A push keeps the canonical form, complete or stopped. -/
theorem push_wf {s : State} {env : Env} {k : Nat} {v : Word} (hm : s.mem.wf = true) :
    (∀ {t}, push s env k v = .ok t → t.mem.wf = true) ∧ (∀ {h}, push s env k v = .error h → h.mem.wf = true) :=
  pushBytes_keeps env (fun m => m.wf = true) _ hm fun _ _ p v _ _ h => Memory.wf_store h p v

/-- A pull changes the stack pointer of its environment only; it gives as many bytes as asked for. -/
theorem pullBytes_ok (env : Env) : ∀ (k : Nat) {s t : State} {bs : List Byte}, pullBytes s env k = .ok (bs, t) →
    bs.length = k ∧ (t = s ∨ ∃ sp, t = s.setSp env sp)
  | 0, s, t, bs, h => by cases h; exact ⟨rfl, .inl rfl⟩
  | k + 1, s, t, bs, h => by
    unfold pullBytes at h
    dsimp only at h
    split at h
    · cases h
    · split at h
      · cases h
      · rename_i hr
        cases h
        obtain ⟨hl, ih⟩ := pullBytes_ok env k hr
        refine ⟨by simp [hl], .inr ?_⟩
        rcases ih with rfl | ⟨sp, rfl⟩
        · exact ⟨_, rfl⟩
        · cases env <;> exact ⟨sp, rfl⟩

/-- A pull changes the stack pointer of its environment only; `k` bytes give a value below `2^(8k)`. -/
theorem pull_ok {s t : State} {env : Env} {k : Nat} {v : Word} (h : pull s env k = .ok (v, t)) :
    v.toNat < 2 ^ (8 * k) ∧ (t = s ∨ ∃ sp, t = s.setSp env sp) := by
  unfold pull at h
  split at h
  · cases h
  · rename_i hr
    cases h
    obtain ⟨hl, ht⟩ := pullBytes_ok env k hr
    exact ⟨hl ▸ ofBytes_lt _, ht⟩

/-- A pull that does not complete leaves memory alone. -/
theorem pullBytes_error (env : Env) : ∀ (k : Nat) {s : State} {h : Halt}, pullBytes s env k = .error h → h.mem = s.mem
  | 0, s, h, e => by cases e
  | k + 1, s, h, e => by
    unfold pullBytes at e
    dsimp only at e
    split at e
    · cases e; simp
    · split at e
      · rename_i hr
        cases e
        rw [pullBytes_error env k hr]; simp
      · cases e

/-- A pull that does not complete leaves memory alone. -/
theorem pull_error {s : State} {env : Env} {k : Nat} {h : Halt} (e : pull s env k = .error h) : h.mem = s.mem := by
  unfold pull at e
  split at e
  · rename_i hr; cases e; exact pullBytes_error env k hr
  · cases e

/-! ### Taking an exception -/

/-- The other registers an entry with an extended frame writes (R680), after the pushes. -/
theorem enterExtended_ok {s t : State} {ret : Word} {status : Option Bool} (h : enterExtended s ret status = .ok t) :
    ∃ u, StackMoved s.cur s u ∧ t = { u with
      sr := { s.sr with sf := frameCode (frameBytes s.cfg ret), p := s.isHyp || !s.cfg.hyp, h := true }
      link := none } := by
  have lift : ∀ {u v : State} {q : Status}, StackMoved s.cur { u with sr := q } v →
      StackMoved s.cur u { v with sr := u.sr } := fun m => by
    have := m.eq
    cases hc : s.cur <;> rw [hc] at m <;>
      exact ⟨by rw [this], m.sph, m.spu, by have := m.fits; simpa [State.sp, State.w] using this⟩
  unfold enterExtended at h
  dsimp only at h
  split at h
  · cases h
  · rename_i s1 h1
    split at h
    · cases h
    · rename_i s2 h2
      have m2 := lift (StackMoved.trans (push_ok h1) (push_ok h2))
      have e2 : s2.sr = { s.sr with sf := frameCode (frameBytes s.cfg ret) } := by
        rw [(StackMoved.trans (push_ok h1) (push_ok h2)).eq]; rfl
      have c2 : s2.cfg = s.cfg := by rw [(StackMoved.trans (push_ok h1) (push_ok h2)).eq]; rfl
      split at h
      · cases h
        exact ⟨_, m2, by simp [State.setP, State.setH, State.unlink, e2, c2]⟩
      · split at h
        · cases h
        · rename_i s3 h3
          have k := StackMoved.trans (StackMoved.trans (push_ok h1) (push_ok h2)) (push_ok h3)
          have e3 : s3.sr = { s.sr with sf := frameCode (frameBytes s.cfg ret) } := by rw [k.eq]; rfl
          have c3 : s3.cfg = s.cfg := by rw [k.eq]; rfl
          cases h
          exact ⟨_, lift k, by simp [State.setP, State.setH, State.unlink, e3, c3]⟩

/-- An entry with an extended frame keeps the canonical form of memory, complete or stopped. -/
theorem enterExtended_wf {s : State} {ret : Word} {status : Option Bool} (hm : s.mem.wf = true) :
    (∀ t, enterExtended s ret status = .ok t → t.mem.wf = true) ∧
    (∀ h, enterExtended s ret status = .error h → h.mem.wf = true) := by
  unfold enterExtended
  dsimp only
  have h0 : (s.setSf (frameCode (frameBytes s.cfg ret))).mem.wf = true := hm
  cases h1 : push (s.setSf (frameCode (frameBytes s.cfg ret))) s.cur (frameBytes s.cfg ret) ret with
  | error e => exact ⟨fun _ h => (by cases h), fun _ h => by cases h; exact (push_wf h0).2 h1⟩
  | ok s1 =>
    have hs1 := (push_wf h0).1 h1
    dsimp only
    cases h2 : push s1 s.cur 1 ((extendedByte s.isHyp s.prevHyp (frameCode (frameBytes s.cfg ret))).setWidth 64) with
    | error e => exact ⟨fun _ h => (by cases h), fun _ h => by cases h; exact (push_wf hs1).2 h2⟩
    | ok s2 =>
      have hs2 := (push_wf hs1).1 h2
      cases status with
      | none => exact ⟨fun _ h => by cases h; exact hs2, fun _ h => by cases h⟩
      | some b =>
        dsimp only
        cases h3 : push s2 s.cur 1 ((statusByte s.sr false b).setWidth 64) with
        | error e => exact ⟨fun _ h => (by cases h), fun _ h => by cases h; exact (push_wf hs2).2 h3⟩
        | ok s3 => exact ⟨fun _ h => (by cases h; have := (push_wf hs2).1 h3; exact this), fun _ h => by cases h⟩

/-- The registers the 6502 compatible frame's sequences write (R684, R686), after the pushes. -/
theorem enterCompat_ok {s t : State} {ret : Word} {b : Bool} (h : enterCompat s ret b = .ok t) :
    ∃ u, StackMoved s.cur s u ∧ t = { u with sr := { s.sr with i := true }, link := none } := by
  unfold enterCompat at h
  split at h
  · cases h
  · rename_i s1 h1
    split at h
    · cases h
    · rename_i s2 h2
      cases h
      have k := StackMoved.trans (push_ok h1) (push_ok h2)
      refine ⟨s2, k, ?_⟩
      have : s2.sr = s.sr := by rw [k.eq]
      simp [State.setI, State.unlink, this]

/-- A return's frame: only the stack pointer moves, and the frame size is one the core has (R39). -/
theorem pullFrame_ok {s : State} {env : Env} {f : Frame} (h : pullFrame s env = .ok f) :
    StackMoved env s f.after ∧ codeBytes f.sf ≠ 0 ∧ codeBytes f.sf ≤ s.wBytes ∧ (env = .user → f.h = false ∧ f.p = false) := by
  have step : ∀ {u v : State} {k : Nat} {x : Word}, pull u env k = .ok (x, v) → StackMoved env u v := fun hp => by
    rcases (pull_ok hp).2 with rfl | ⟨sp, rfl⟩
    · exact .refl _ _
    · exact .set env _ _ sp
  unfold pullFrame at h
  split at h
  · cases h
  · rename_i x s1 h1
    dsimp only at h
    split at h
    · cases h
    · rename_i hs
      split at h
      · cases h
      · split at h
        · cases h
        · rename_i a s2 h2
          cases h
          refine ⟨(step h1).trans (step h2), fun e => hs (.inl e), Nat.le_of_not_lt fun e => hs (.inr e), ?_⟩
          intro e; subst e; exact ⟨rfl, rfl⟩

/-! ### Performing an instruction -/

/-- An instruction has three outcomes: its body's next state, an abort entry from the state before it, or a stop. -/
theorem performFrom_next {undo s t : State} {page : Page} {f : Format} {p : Pfx} {body : State → Res State}
    (h : performFrom undo page f p s body = .next t) :
    body (s.setPc (s.pc + BitVec.ofNat 64 (instrBytes page f p))) = .ok t ∨
    ∃ k m, (m = s.mem ∨ ∃ hl, body (s.setPc (s.pc + BitVec.ofNat 64 (instrBytes page f p))) = .error hl ∧ hl.mem = m) ∧
      enterAbort { undo with mem := m } (s.pc + BitVec.ofNat 64 (instrBytes page f p)) k = .ok t := by
  have abort : ∀ {k m}, abortAnswer undo (s.pc + BitVec.ofNat 64 (instrBytes page f p)) k m = .next t →
      enterAbort { undo with mem := m } (s.pc + BitVec.ofNat 64 (instrBytes page f p)) k = .ok t := fun h => by
    unfold abortAnswer answer at h
    split at h
    · cases h; assumption
    · split at h <;> cases h
  unfold performFrom at h
  dsimp only at h
  split at h
  · exact .inr ⟨_, _, .inl rfl, abort h⟩
  · split at h
    · cases h
    · unfold finish at h
      split at h
      · rename_i hb; cases h; exact .inl hb
      · rename_i hl hb
        split at h
        · exact .inr ⟨_, _, .inr ⟨hl, hb, rfl⟩, abort h⟩
        · cases h
        · cases h

/-- An instruction allowed to run whose body completes answers the body's state. -/
theorem perform_ok {s t : State} {page : Page} {f : Format} {p : Pfx} {body : State → Res State}
    (h1 : ¬ ((page = .sys ∨ p.um) ∧ s.isHyp = false)) (h2 : ¬ (p.um ∧ s.cfg.hyp = false))
    (hb : body (s.setPc (s.pc + BitVec.ofNat 64 (instrBytes page f p))) = .ok t) : perform page f p s body = .next t := by
  simp only [perform, performFrom, if_neg h1, if_neg h2, hb, finish]

/-! ### The extension of TXS and TYS -/

/-- An instruction is unprefixed exactly without prefix bytes or with a prefix1 of default bits alone. -/
theorem unprefixed_iff (p : Pfx) : unprefixed p = true ↔
    p.p2 = none ∧ (p.p1 = none ∨ p.p1 = some { offset := .none, size := .b8, am := false }) := by
  obtain ⟨_ | ⟨o, z, am⟩, _ | q⟩ := p <;> simp [unprefixed, Pfx.offset, Pfx.size, Pfx.am, and_assoc]

/-- TXS_DEFAULT_LE keeps the upper bits for the unprefixed form only (R322); every other form extends as a transfer (R253). -/
theorem toStackExtension_eq (p : Pfx) (c : Config) : toStackExtension p c =
    if unprefixed p = true ∧ c.txsDefault = .none then .none else p.extension .zero := by
  unfold toStackExtension
  cases unprefixed p <;> cases c.txsDefault <;> simp

end Sys2Proof.Machine
end

