-- ==== Sys2Proof/Laws/PerInstr.lean ====
section
/-! SUPPORT. Facts about every instruction as syntax, one lemma per constructor of Instr. -/

namespace Sys2Proof.Laws

open Sys2Proof.Machine (toBytes)

/-- The bytes of a value are as many as asked for. -/
theorem length_toBytes : ∀ (k : Nat) (v : Word), (toBytes k v).length = k
  | 0, _ => rfl
  | k + 1, v => by simp [toBytes, length_toBytes k]

/-- The encoding of an instruction is as long as its page, format and prefixes say (R150, R170), and never longer than the
longest instruction. -/
def EncodingHasDeclaredLength.Statement (i : Instr) : Prop :=
  ∀ at_ : MvnfuCode, (encode at_ i).length = instrBytes i.view.row.page i.view.row.format i.view.pfx ∧
    (encode at_ i).length ≤ maxInstrBytes

/-- It is so for every instruction. -/
theorem encodingHasDeclaredLength (i : Instr) : EncodingHasDeclaredLength.Statement i := fun at_ => by
  have hp : (encodePfx i.view.pfx).length = i.view.pfx.bytes ∧ i.view.pfx.bytes ≤ 2 := by
    rcases i.view.pfx with ⟨a, b⟩
    cases a <;> cases b <;> simp [encodePfx, Pfx.bytes]
  have hg : (encodePage i.view.row.page).length = i.view.row.page.bytes ∧ i.view.row.page.bytes ≤ 1 := by
    cases i.view.row.page <;> simp [encodePage, Page.bytes]
  have hf : i.view.row.format.operandBytes i.view.pfx ≤ 8 := by
    have hs : i.view.pfx.size.bytes ≤ 8 := by cases i.view.pfx.size <;> simp [Size.bytes]
    cases i.view.row.format <;> simp only [Format.operandBytes] <;> first | omega | (split <;> omega)
  have : (encode at_ i).length = instrBytes i.view.row.page i.view.row.format i.view.pfx := by
    simp only [encode, List.length_append, List.length_cons, length_toBytes, hp.1, hg.1, instrBytes]; omega
  exact ⟨this, by rw [this, instrBytes, maxInstrBytes]; omega⟩

theorem EncodingHasDeclaredLength.brk (p : Pfx) : EncodingHasDeclaredLength.Statement (.brk p) :=
  encodingHasDeclaredLength _
theorem EncodingHasDeclaredLength.oraIndZpX (p : Pfx) (op : Word) : EncodingHasDeclaredLength.Statement (.oraIndZpX p op) :=
  encodingHasDeclaredLength _
theorem EncodingHasDeclaredLength.ldaZpY (p : Pfx) (op : Word) : EncodingHasDeclaredLength.Statement (.ldaZpY p op) :=
  encodingHasDeclaredLength _
theorem EncodingHasDeclaredLength.tsbZp (p : Pfx) (op : Word) : EncodingHasDeclaredLength.Statement (.tsbZp p op) :=
  encodingHasDeclaredLength _
theorem EncodingHasDeclaredLength.oraZp (p : Pfx) (op : Word) : EncodingHasDeclaredLength.Statement (.oraZp p op) :=
  encodingHasDeclaredLength _
theorem EncodingHasDeclaredLength.aslZp (p : Pfx) (op : Word) : EncodingHasDeclaredLength.Statement (.aslZp p op) :=
  encodingHasDeclaredLength _
theorem EncodingHasDeclaredLength.php (p : Pfx) : EncodingHasDeclaredLength.Statement (.php p) :=
  encodingHasDeclaredLength _
theorem EncodingHasDeclaredLength.oraImm (p : Pfx) (op : Word) : EncodingHasDeclaredLength.Statement (.oraImm p op) :=
  encodingHasDeclaredLength _
theorem EncodingHasDeclaredLength.aslA (p : Pfx) : EncodingHasDeclaredLength.Statement (.aslA p) :=
  encodingHasDeclaredLength _
theorem EncodingHasDeclaredLength.tsbAbs (p : Pfx) (op : Word) : EncodingHasDeclaredLength.Statement (.tsbAbs p op) :=
  encodingHasDeclaredLength _
theorem EncodingHasDeclaredLength.oraAbs (p : Pfx) (op : Word) : EncodingHasDeclaredLength.Statement (.oraAbs p op) :=
  encodingHasDeclaredLength _
theorem EncodingHasDeclaredLength.aslAbs (p : Pfx) (op : Word) : EncodingHasDeclaredLength.Statement (.aslAbs p op) :=
  encodingHasDeclaredLength _
theorem EncodingHasDeclaredLength.bpl (p : Pfx) (op : Word) : EncodingHasDeclaredLength.Statement (.bpl p op) :=
  encodingHasDeclaredLength _
theorem EncodingHasDeclaredLength.oraIndZpY (p : Pfx) (op : Word) : EncodingHasDeclaredLength.Statement (.oraIndZpY p op) :=
  encodingHasDeclaredLength _
theorem EncodingHasDeclaredLength.oraIndZp (p : Pfx) (op : Word) : EncodingHasDeclaredLength.Statement (.oraIndZp p op) :=
  encodingHasDeclaredLength _
theorem EncodingHasDeclaredLength.trbZp (p : Pfx) (op : Word) : EncodingHasDeclaredLength.Statement (.trbZp p op) :=
  encodingHasDeclaredLength _
theorem EncodingHasDeclaredLength.oraZpX (p : Pfx) (op : Word) : EncodingHasDeclaredLength.Statement (.oraZpX p op) :=
  encodingHasDeclaredLength _
theorem EncodingHasDeclaredLength.aslZpX (p : Pfx) (op : Word) : EncodingHasDeclaredLength.Statement (.aslZpX p op) :=
  encodingHasDeclaredLength _
theorem EncodingHasDeclaredLength.clc (p : Pfx) : EncodingHasDeclaredLength.Statement (.clc p) :=
  encodingHasDeclaredLength _
theorem EncodingHasDeclaredLength.oraAbsY (p : Pfx) (op : Word) : EncodingHasDeclaredLength.Statement (.oraAbsY p op) :=
  encodingHasDeclaredLength _
theorem EncodingHasDeclaredLength.incA (p : Pfx) : EncodingHasDeclaredLength.Statement (.incA p) :=
  encodingHasDeclaredLength _
theorem EncodingHasDeclaredLength.trbAbs (p : Pfx) (op : Word) : EncodingHasDeclaredLength.Statement (.trbAbs p op) :=
  encodingHasDeclaredLength _
theorem EncodingHasDeclaredLength.oraAbsX (p : Pfx) (op : Word) : EncodingHasDeclaredLength.Statement (.oraAbsX p op) :=
  encodingHasDeclaredLength _
theorem EncodingHasDeclaredLength.aslAbsX (p : Pfx) (op : Word) : EncodingHasDeclaredLength.Statement (.aslAbsX p op) :=
  encodingHasDeclaredLength _
theorem EncodingHasDeclaredLength.aslAbsY (p : Pfx) (op : Word) : EncodingHasDeclaredLength.Statement (.aslAbsY p op) :=
  encodingHasDeclaredLength _
theorem EncodingHasDeclaredLength.jsrAbs (p : Pfx) (op : Word) : EncodingHasDeclaredLength.Statement (.jsrAbs p op) :=
  encodingHasDeclaredLength _
theorem EncodingHasDeclaredLength.andIndZpX (p : Pfx) (op : Word) : EncodingHasDeclaredLength.Statement (.andIndZpX p op) :=
  encodingHasDeclaredLength _
theorem EncodingHasDeclaredLength.staZpY (p : Pfx) (op : Word) : EncodingHasDeclaredLength.Statement (.staZpY p op) :=
  encodingHasDeclaredLength _
theorem EncodingHasDeclaredLength.bitZp (p : Pfx) (op : Word) : EncodingHasDeclaredLength.Statement (.bitZp p op) :=
  encodingHasDeclaredLength _
theorem EncodingHasDeclaredLength.andZp (p : Pfx) (op : Word) : EncodingHasDeclaredLength.Statement (.andZp p op) :=
  encodingHasDeclaredLength _
theorem EncodingHasDeclaredLength.rolZp (p : Pfx) (op : Word) : EncodingHasDeclaredLength.Statement (.rolZp p op) :=
  encodingHasDeclaredLength _
theorem EncodingHasDeclaredLength.plp (p : Pfx) : EncodingHasDeclaredLength.Statement (.plp p) :=
  encodingHasDeclaredLength _
theorem EncodingHasDeclaredLength.andImm (p : Pfx) (op : Word) : EncodingHasDeclaredLength.Statement (.andImm p op) :=
  encodingHasDeclaredLength _
theorem EncodingHasDeclaredLength.rolA (p : Pfx) : EncodingHasDeclaredLength.Statement (.rolA p) :=
  encodingHasDeclaredLength _
theorem EncodingHasDeclaredLength.bitAbs (p : Pfx) (op : Word) : EncodingHasDeclaredLength.Statement (.bitAbs p op) :=
  encodingHasDeclaredLength _
theorem EncodingHasDeclaredLength.andAbs (p : Pfx) (op : Word) : EncodingHasDeclaredLength.Statement (.andAbs p op) :=
  encodingHasDeclaredLength _
theorem EncodingHasDeclaredLength.rolAbs (p : Pfx) (op : Word) : EncodingHasDeclaredLength.Statement (.rolAbs p op) :=
  encodingHasDeclaredLength _
theorem EncodingHasDeclaredLength.bmi (p : Pfx) (op : Word) : EncodingHasDeclaredLength.Statement (.bmi p op) :=
  encodingHasDeclaredLength _
theorem EncodingHasDeclaredLength.andIndZpY (p : Pfx) (op : Word) : EncodingHasDeclaredLength.Statement (.andIndZpY p op) :=
  encodingHasDeclaredLength _
theorem EncodingHasDeclaredLength.andIndZp (p : Pfx) (op : Word) : EncodingHasDeclaredLength.Statement (.andIndZp p op) :=
  encodingHasDeclaredLength _
theorem EncodingHasDeclaredLength.bitZpX (p : Pfx) (op : Word) : EncodingHasDeclaredLength.Statement (.bitZpX p op) :=
  encodingHasDeclaredLength _
theorem EncodingHasDeclaredLength.andZpX (p : Pfx) (op : Word) : EncodingHasDeclaredLength.Statement (.andZpX p op) :=
  encodingHasDeclaredLength _
theorem EncodingHasDeclaredLength.rolZpX (p : Pfx) (op : Word) : EncodingHasDeclaredLength.Statement (.rolZpX p op) :=
  encodingHasDeclaredLength _
theorem EncodingHasDeclaredLength.sec (p : Pfx) : EncodingHasDeclaredLength.Statement (.sec p) :=
  encodingHasDeclaredLength _
theorem EncodingHasDeclaredLength.andAbsY (p : Pfx) (op : Word) : EncodingHasDeclaredLength.Statement (.andAbsY p op) :=
  encodingHasDeclaredLength _
theorem EncodingHasDeclaredLength.decA (p : Pfx) : EncodingHasDeclaredLength.Statement (.decA p) :=
  encodingHasDeclaredLength _
theorem EncodingHasDeclaredLength.bitAbsX (p : Pfx) (op : Word) : EncodingHasDeclaredLength.Statement (.bitAbsX p op) :=
  encodingHasDeclaredLength _
theorem EncodingHasDeclaredLength.andAbsX (p : Pfx) (op : Word) : EncodingHasDeclaredLength.Statement (.andAbsX p op) :=
  encodingHasDeclaredLength _
theorem EncodingHasDeclaredLength.rolAbsX (p : Pfx) (op : Word) : EncodingHasDeclaredLength.Statement (.rolAbsX p op) :=
  encodingHasDeclaredLength _
theorem EncodingHasDeclaredLength.rolAbsY (p : Pfx) (op : Word) : EncodingHasDeclaredLength.Statement (.rolAbsY p op) :=
  encodingHasDeclaredLength _
theorem EncodingHasDeclaredLength.rti (p : Pfx) : EncodingHasDeclaredLength.Statement (.rti p) :=
  encodingHasDeclaredLength _
theorem EncodingHasDeclaredLength.eorIndZpX (p : Pfx) (op : Word) : EncodingHasDeclaredLength.Statement (.eorIndZpX p op) :=
  encodingHasDeclaredLength _
theorem EncodingHasDeclaredLength.ldaIndAbsY (p : Pfx) (op : Word) : EncodingHasDeclaredLength.Statement (.ldaIndAbsY p op) :=
  encodingHasDeclaredLength _
theorem EncodingHasDeclaredLength.bsrRelWide (p : Pfx) (op : Word) : EncodingHasDeclaredLength.Statement (.bsrRelWide p op) :=
  encodingHasDeclaredLength _
theorem EncodingHasDeclaredLength.eorZp (p : Pfx) (op : Word) : EncodingHasDeclaredLength.Statement (.eorZp p op) :=
  encodingHasDeclaredLength _
theorem EncodingHasDeclaredLength.lsrZp (p : Pfx) (op : Word) : EncodingHasDeclaredLength.Statement (.lsrZp p op) :=
  encodingHasDeclaredLength _
theorem EncodingHasDeclaredLength.pha (p : Pfx) : EncodingHasDeclaredLength.Statement (.pha p) :=
  encodingHasDeclaredLength _
theorem EncodingHasDeclaredLength.eorImm (p : Pfx) (op : Word) : EncodingHasDeclaredLength.Statement (.eorImm p op) :=
  encodingHasDeclaredLength _
theorem EncodingHasDeclaredLength.lsrA (p : Pfx) : EncodingHasDeclaredLength.Statement (.lsrA p) :=
  encodingHasDeclaredLength _
theorem EncodingHasDeclaredLength.jmpAbs (p : Pfx) (op : Word) : EncodingHasDeclaredLength.Statement (.jmpAbs p op) :=
  encodingHasDeclaredLength _
theorem EncodingHasDeclaredLength.eorAbs (p : Pfx) (op : Word) : EncodingHasDeclaredLength.Statement (.eorAbs p op) :=
  encodingHasDeclaredLength _
theorem EncodingHasDeclaredLength.lsrAbs (p : Pfx) (op : Word) : EncodingHasDeclaredLength.Statement (.lsrAbs p op) :=
  encodingHasDeclaredLength _
theorem EncodingHasDeclaredLength.bvc (p : Pfx) (op : Word) : EncodingHasDeclaredLength.Statement (.bvc p op) :=
  encodingHasDeclaredLength _
theorem EncodingHasDeclaredLength.eorIndZpY (p : Pfx) (op : Word) : EncodingHasDeclaredLength.Statement (.eorIndZpY p op) :=
  encodingHasDeclaredLength _
theorem EncodingHasDeclaredLength.eorIndZp (p : Pfx) (op : Word) : EncodingHasDeclaredLength.Statement (.eorIndZp p op) :=
  encodingHasDeclaredLength _
theorem EncodingHasDeclaredLength.eorZpX (p : Pfx) (op : Word) : EncodingHasDeclaredLength.Statement (.eorZpX p op) :=
  encodingHasDeclaredLength _
theorem EncodingHasDeclaredLength.lsrZpX (p : Pfx) (op : Word) : EncodingHasDeclaredLength.Statement (.lsrZpX p op) :=
  encodingHasDeclaredLength _
theorem EncodingHasDeclaredLength.cli (p : Pfx) : EncodingHasDeclaredLength.Statement (.cli p) :=
  encodingHasDeclaredLength _
theorem EncodingHasDeclaredLength.eorAbsY (p : Pfx) (op : Word) : EncodingHasDeclaredLength.Statement (.eorAbsY p op) :=
  encodingHasDeclaredLength _
theorem EncodingHasDeclaredLength.phy (p : Pfx) : EncodingHasDeclaredLength.Statement (.phy p) :=
  encodingHasDeclaredLength _
theorem EncodingHasDeclaredLength.eorAbsX (p : Pfx) (op : Word) : EncodingHasDeclaredLength.Statement (.eorAbsX p op) :=
  encodingHasDeclaredLength _
theorem EncodingHasDeclaredLength.lsrAbsX (p : Pfx) (op : Word) : EncodingHasDeclaredLength.Statement (.lsrAbsX p op) :=
  encodingHasDeclaredLength _
theorem EncodingHasDeclaredLength.lsrAbsY (p : Pfx) (op : Word) : EncodingHasDeclaredLength.Statement (.lsrAbsY p op) :=
  encodingHasDeclaredLength _
theorem EncodingHasDeclaredLength.rts (p : Pfx) : EncodingHasDeclaredLength.Statement (.rts p) :=
  encodingHasDeclaredLength _
theorem EncodingHasDeclaredLength.adcIndZpX (p : Pfx) (op : Word) : EncodingHasDeclaredLength.Statement (.adcIndZpX p op) :=
  encodingHasDeclaredLength _
theorem EncodingHasDeclaredLength.ldaIndAbsX (p : Pfx) (op : Word) : EncodingHasDeclaredLength.Statement (.ldaIndAbsX p op) :=
  encodingHasDeclaredLength _
theorem EncodingHasDeclaredLength.stzZp (p : Pfx) (op : Word) : EncodingHasDeclaredLength.Statement (.stzZp p op) :=
  encodingHasDeclaredLength _
theorem EncodingHasDeclaredLength.adcZp (p : Pfx) (op : Word) : EncodingHasDeclaredLength.Statement (.adcZp p op) :=
  encodingHasDeclaredLength _
theorem EncodingHasDeclaredLength.rorZp (p : Pfx) (op : Word) : EncodingHasDeclaredLength.Statement (.rorZp p op) :=
  encodingHasDeclaredLength _
theorem EncodingHasDeclaredLength.pla (p : Pfx) : EncodingHasDeclaredLength.Statement (.pla p) :=
  encodingHasDeclaredLength _
theorem EncodingHasDeclaredLength.adcImm (p : Pfx) (op : Word) : EncodingHasDeclaredLength.Statement (.adcImm p op) :=
  encodingHasDeclaredLength _
theorem EncodingHasDeclaredLength.rorA (p : Pfx) : EncodingHasDeclaredLength.Statement (.rorA p) :=
  encodingHasDeclaredLength _
theorem EncodingHasDeclaredLength.jmpIndAbs (p : Pfx) (op : Word) : EncodingHasDeclaredLength.Statement (.jmpIndAbs p op) :=
  encodingHasDeclaredLength _
theorem EncodingHasDeclaredLength.adcAbs (p : Pfx) (op : Word) : EncodingHasDeclaredLength.Statement (.adcAbs p op) :=
  encodingHasDeclaredLength _
theorem EncodingHasDeclaredLength.rorAbs (p : Pfx) (op : Word) : EncodingHasDeclaredLength.Statement (.rorAbs p op) :=
  encodingHasDeclaredLength _
theorem EncodingHasDeclaredLength.bvs (p : Pfx) (op : Word) : EncodingHasDeclaredLength.Statement (.bvs p op) :=
  encodingHasDeclaredLength _
theorem EncodingHasDeclaredLength.adcIndZpY (p : Pfx) (op : Word) : EncodingHasDeclaredLength.Statement (.adcIndZpY p op) :=
  encodingHasDeclaredLength _
theorem EncodingHasDeclaredLength.adcIndZp (p : Pfx) (op : Word) : EncodingHasDeclaredLength.Statement (.adcIndZp p op) :=
  encodingHasDeclaredLength _
theorem EncodingHasDeclaredLength.stzZpX (p : Pfx) (op : Word) : EncodingHasDeclaredLength.Statement (.stzZpX p op) :=
  encodingHasDeclaredLength _
theorem EncodingHasDeclaredLength.adcZpX (p : Pfx) (op : Word) : EncodingHasDeclaredLength.Statement (.adcZpX p op) :=
  encodingHasDeclaredLength _
theorem EncodingHasDeclaredLength.rorZpX (p : Pfx) (op : Word) : EncodingHasDeclaredLength.Statement (.rorZpX p op) :=
  encodingHasDeclaredLength _
theorem EncodingHasDeclaredLength.sei (p : Pfx) : EncodingHasDeclaredLength.Statement (.sei p) :=
  encodingHasDeclaredLength _
theorem EncodingHasDeclaredLength.adcAbsY (p : Pfx) (op : Word) : EncodingHasDeclaredLength.Statement (.adcAbsY p op) :=
  encodingHasDeclaredLength _
theorem EncodingHasDeclaredLength.ply (p : Pfx) : EncodingHasDeclaredLength.Statement (.ply p) :=
  encodingHasDeclaredLength _
theorem EncodingHasDeclaredLength.jmpIndAbsX (p : Pfx) (op : Word) : EncodingHasDeclaredLength.Statement (.jmpIndAbsX p op) :=
  encodingHasDeclaredLength _
theorem EncodingHasDeclaredLength.adcAbsX (p : Pfx) (op : Word) : EncodingHasDeclaredLength.Statement (.adcAbsX p op) :=
  encodingHasDeclaredLength _
theorem EncodingHasDeclaredLength.rorAbsX (p : Pfx) (op : Word) : EncodingHasDeclaredLength.Statement (.rorAbsX p op) :=
  encodingHasDeclaredLength _
theorem EncodingHasDeclaredLength.rorAbsY (p : Pfx) (op : Word) : EncodingHasDeclaredLength.Statement (.rorAbsY p op) :=
  encodingHasDeclaredLength _
theorem EncodingHasDeclaredLength.bra (p : Pfx) (op : Word) : EncodingHasDeclaredLength.Statement (.bra p op) :=
  encodingHasDeclaredLength _
theorem EncodingHasDeclaredLength.staIndZpX (p : Pfx) (op : Word) : EncodingHasDeclaredLength.Statement (.staIndZpX p op) :=
  encodingHasDeclaredLength _
theorem EncodingHasDeclaredLength.bsrRel (p : Pfx) (op : Word) : EncodingHasDeclaredLength.Statement (.bsrRel p op) :=
  encodingHasDeclaredLength _
theorem EncodingHasDeclaredLength.styZp (p : Pfx) (op : Word) : EncodingHasDeclaredLength.Statement (.styZp p op) :=
  encodingHasDeclaredLength _
theorem EncodingHasDeclaredLength.staZp (p : Pfx) (op : Word) : EncodingHasDeclaredLength.Statement (.staZp p op) :=
  encodingHasDeclaredLength _
theorem EncodingHasDeclaredLength.stxZp (p : Pfx) (op : Word) : EncodingHasDeclaredLength.Statement (.stxZp p op) :=
  encodingHasDeclaredLength _
theorem EncodingHasDeclaredLength.dey (p : Pfx) : EncodingHasDeclaredLength.Statement (.dey p) :=
  encodingHasDeclaredLength _
theorem EncodingHasDeclaredLength.bitImm (p : Pfx) (op : Word) : EncodingHasDeclaredLength.Statement (.bitImm p op) :=
  encodingHasDeclaredLength _
theorem EncodingHasDeclaredLength.txa (p : Pfx) : EncodingHasDeclaredLength.Statement (.txa p) :=
  encodingHasDeclaredLength _
theorem EncodingHasDeclaredLength.styAbs (p : Pfx) (op : Word) : EncodingHasDeclaredLength.Statement (.styAbs p op) :=
  encodingHasDeclaredLength _
theorem EncodingHasDeclaredLength.staAbs (p : Pfx) (op : Word) : EncodingHasDeclaredLength.Statement (.staAbs p op) :=
  encodingHasDeclaredLength _
theorem EncodingHasDeclaredLength.stxAbs (p : Pfx) (op : Word) : EncodingHasDeclaredLength.Statement (.stxAbs p op) :=
  encodingHasDeclaredLength _
theorem EncodingHasDeclaredLength.bcc (p : Pfx) (op : Word) : EncodingHasDeclaredLength.Statement (.bcc p op) :=
  encodingHasDeclaredLength _
theorem EncodingHasDeclaredLength.staIndZpY (p : Pfx) (op : Word) : EncodingHasDeclaredLength.Statement (.staIndZpY p op) :=
  encodingHasDeclaredLength _
theorem EncodingHasDeclaredLength.staIndZp (p : Pfx) (op : Word) : EncodingHasDeclaredLength.Statement (.staIndZp p op) :=
  encodingHasDeclaredLength _
theorem EncodingHasDeclaredLength.styZpX (p : Pfx) (op : Word) : EncodingHasDeclaredLength.Statement (.styZpX p op) :=
  encodingHasDeclaredLength _
theorem EncodingHasDeclaredLength.staZpX (p : Pfx) (op : Word) : EncodingHasDeclaredLength.Statement (.staZpX p op) :=
  encodingHasDeclaredLength _
theorem EncodingHasDeclaredLength.stxZpY (p : Pfx) (op : Word) : EncodingHasDeclaredLength.Statement (.stxZpY p op) :=
  encodingHasDeclaredLength _
theorem EncodingHasDeclaredLength.tya (p : Pfx) : EncodingHasDeclaredLength.Statement (.tya p) :=
  encodingHasDeclaredLength _
theorem EncodingHasDeclaredLength.staAbsY (p : Pfx) (op : Word) : EncodingHasDeclaredLength.Statement (.staAbsY p op) :=
  encodingHasDeclaredLength _
theorem EncodingHasDeclaredLength.txs (p : Pfx) : EncodingHasDeclaredLength.Statement (.txs p) :=
  encodingHasDeclaredLength _
theorem EncodingHasDeclaredLength.stzAbs (p : Pfx) (op : Word) : EncodingHasDeclaredLength.Statement (.stzAbs p op) :=
  encodingHasDeclaredLength _
theorem EncodingHasDeclaredLength.staAbsX (p : Pfx) (op : Word) : EncodingHasDeclaredLength.Statement (.staAbsX p op) :=
  encodingHasDeclaredLength _
theorem EncodingHasDeclaredLength.stzAbsX (p : Pfx) (op : Word) : EncodingHasDeclaredLength.Statement (.stzAbsX p op) :=
  encodingHasDeclaredLength _
theorem EncodingHasDeclaredLength.styAbsX (p : Pfx) (op : Word) : EncodingHasDeclaredLength.Statement (.styAbsX p op) :=
  encodingHasDeclaredLength _
theorem EncodingHasDeclaredLength.ldyImm (p : Pfx) (op : Word) : EncodingHasDeclaredLength.Statement (.ldyImm p op) :=
  encodingHasDeclaredLength _
theorem EncodingHasDeclaredLength.ldaIndZpX (p : Pfx) (op : Word) : EncodingHasDeclaredLength.Statement (.ldaIndZpX p op) :=
  encodingHasDeclaredLength _
theorem EncodingHasDeclaredLength.ldxImm (p : Pfx) (op : Word) : EncodingHasDeclaredLength.Statement (.ldxImm p op) :=
  encodingHasDeclaredLength _
theorem EncodingHasDeclaredLength.ldyZp (p : Pfx) (op : Word) : EncodingHasDeclaredLength.Statement (.ldyZp p op) :=
  encodingHasDeclaredLength _
theorem EncodingHasDeclaredLength.ldaZp (p : Pfx) (op : Word) : EncodingHasDeclaredLength.Statement (.ldaZp p op) :=
  encodingHasDeclaredLength _
theorem EncodingHasDeclaredLength.ldxZp (p : Pfx) (op : Word) : EncodingHasDeclaredLength.Statement (.ldxZp p op) :=
  encodingHasDeclaredLength _
theorem EncodingHasDeclaredLength.tay (p : Pfx) : EncodingHasDeclaredLength.Statement (.tay p) :=
  encodingHasDeclaredLength _
theorem EncodingHasDeclaredLength.ldaImm (p : Pfx) (op : Word) : EncodingHasDeclaredLength.Statement (.ldaImm p op) :=
  encodingHasDeclaredLength _
theorem EncodingHasDeclaredLength.tax (p : Pfx) : EncodingHasDeclaredLength.Statement (.tax p) :=
  encodingHasDeclaredLength _
theorem EncodingHasDeclaredLength.ldyAbs (p : Pfx) (op : Word) : EncodingHasDeclaredLength.Statement (.ldyAbs p op) :=
  encodingHasDeclaredLength _
theorem EncodingHasDeclaredLength.ldaAbs (p : Pfx) (op : Word) : EncodingHasDeclaredLength.Statement (.ldaAbs p op) :=
  encodingHasDeclaredLength _
theorem EncodingHasDeclaredLength.ldxAbs (p : Pfx) (op : Word) : EncodingHasDeclaredLength.Statement (.ldxAbs p op) :=
  encodingHasDeclaredLength _
theorem EncodingHasDeclaredLength.bcs (p : Pfx) (op : Word) : EncodingHasDeclaredLength.Statement (.bcs p op) :=
  encodingHasDeclaredLength _
theorem EncodingHasDeclaredLength.ldaIndZpY (p : Pfx) (op : Word) : EncodingHasDeclaredLength.Statement (.ldaIndZpY p op) :=
  encodingHasDeclaredLength _
theorem EncodingHasDeclaredLength.ldaIndZp (p : Pfx) (op : Word) : EncodingHasDeclaredLength.Statement (.ldaIndZp p op) :=
  encodingHasDeclaredLength _
theorem EncodingHasDeclaredLength.ldyZpX (p : Pfx) (op : Word) : EncodingHasDeclaredLength.Statement (.ldyZpX p op) :=
  encodingHasDeclaredLength _
theorem EncodingHasDeclaredLength.ldaZpX (p : Pfx) (op : Word) : EncodingHasDeclaredLength.Statement (.ldaZpX p op) :=
  encodingHasDeclaredLength _
theorem EncodingHasDeclaredLength.ldxZpY (p : Pfx) (op : Word) : EncodingHasDeclaredLength.Statement (.ldxZpY p op) :=
  encodingHasDeclaredLength _
theorem EncodingHasDeclaredLength.clv (p : Pfx) : EncodingHasDeclaredLength.Statement (.clv p) :=
  encodingHasDeclaredLength _
theorem EncodingHasDeclaredLength.ldaAbsY (p : Pfx) (op : Word) : EncodingHasDeclaredLength.Statement (.ldaAbsY p op) :=
  encodingHasDeclaredLength _
theorem EncodingHasDeclaredLength.tsx (p : Pfx) : EncodingHasDeclaredLength.Statement (.tsx p) :=
  encodingHasDeclaredLength _
theorem EncodingHasDeclaredLength.ldyAbsX (p : Pfx) (op : Word) : EncodingHasDeclaredLength.Statement (.ldyAbsX p op) :=
  encodingHasDeclaredLength _
theorem EncodingHasDeclaredLength.ldaAbsX (p : Pfx) (op : Word) : EncodingHasDeclaredLength.Statement (.ldaAbsX p op) :=
  encodingHasDeclaredLength _
theorem EncodingHasDeclaredLength.ldxAbsY (p : Pfx) (op : Word) : EncodingHasDeclaredLength.Statement (.ldxAbsY p op) :=
  encodingHasDeclaredLength _
theorem EncodingHasDeclaredLength.stxAbsY (p : Pfx) (op : Word) : EncodingHasDeclaredLength.Statement (.stxAbsY p op) :=
  encodingHasDeclaredLength _
theorem EncodingHasDeclaredLength.cpyImm (p : Pfx) (op : Word) : EncodingHasDeclaredLength.Statement (.cpyImm p op) :=
  encodingHasDeclaredLength _
theorem EncodingHasDeclaredLength.cmpIndZpX (p : Pfx) (op : Word) : EncodingHasDeclaredLength.Statement (.cmpIndZpX p op) :=
  encodingHasDeclaredLength _
theorem EncodingHasDeclaredLength.staIndAbsY (p : Pfx) (op : Word) : EncodingHasDeclaredLength.Statement (.staIndAbsY p op) :=
  encodingHasDeclaredLength _
theorem EncodingHasDeclaredLength.cpyZp (p : Pfx) (op : Word) : EncodingHasDeclaredLength.Statement (.cpyZp p op) :=
  encodingHasDeclaredLength _
theorem EncodingHasDeclaredLength.cmpZp (p : Pfx) (op : Word) : EncodingHasDeclaredLength.Statement (.cmpZp p op) :=
  encodingHasDeclaredLength _
theorem EncodingHasDeclaredLength.decZp (p : Pfx) (op : Word) : EncodingHasDeclaredLength.Statement (.decZp p op) :=
  encodingHasDeclaredLength _
theorem EncodingHasDeclaredLength.iny (p : Pfx) : EncodingHasDeclaredLength.Statement (.iny p) :=
  encodingHasDeclaredLength _
theorem EncodingHasDeclaredLength.cmpImm (p : Pfx) (op : Word) : EncodingHasDeclaredLength.Statement (.cmpImm p op) :=
  encodingHasDeclaredLength _
theorem EncodingHasDeclaredLength.dex (p : Pfx) : EncodingHasDeclaredLength.Statement (.dex p) :=
  encodingHasDeclaredLength _
theorem EncodingHasDeclaredLength.cpyAbs (p : Pfx) (op : Word) : EncodingHasDeclaredLength.Statement (.cpyAbs p op) :=
  encodingHasDeclaredLength _
theorem EncodingHasDeclaredLength.cmpAbs (p : Pfx) (op : Word) : EncodingHasDeclaredLength.Statement (.cmpAbs p op) :=
  encodingHasDeclaredLength _
theorem EncodingHasDeclaredLength.decAbs (p : Pfx) (op : Word) : EncodingHasDeclaredLength.Statement (.decAbs p op) :=
  encodingHasDeclaredLength _
theorem EncodingHasDeclaredLength.bne (p : Pfx) (op : Word) : EncodingHasDeclaredLength.Statement (.bne p op) :=
  encodingHasDeclaredLength _
theorem EncodingHasDeclaredLength.cmpIndZpY (p : Pfx) (op : Word) : EncodingHasDeclaredLength.Statement (.cmpIndZpY p op) :=
  encodingHasDeclaredLength _
theorem EncodingHasDeclaredLength.cmpIndZp (p : Pfx) (op : Word) : EncodingHasDeclaredLength.Statement (.cmpIndZp p op) :=
  encodingHasDeclaredLength _
theorem EncodingHasDeclaredLength.cmpZpX (p : Pfx) (op : Word) : EncodingHasDeclaredLength.Statement (.cmpZpX p op) :=
  encodingHasDeclaredLength _
theorem EncodingHasDeclaredLength.decZpX (p : Pfx) (op : Word) : EncodingHasDeclaredLength.Statement (.decZpX p op) :=
  encodingHasDeclaredLength _
theorem EncodingHasDeclaredLength.cld (p : Pfx) : EncodingHasDeclaredLength.Statement (.cld p) :=
  encodingHasDeclaredLength _
theorem EncodingHasDeclaredLength.cmpAbsY (p : Pfx) (op : Word) : EncodingHasDeclaredLength.Statement (.cmpAbsY p op) :=
  encodingHasDeclaredLength _
theorem EncodingHasDeclaredLength.phx (p : Pfx) : EncodingHasDeclaredLength.Statement (.phx p) :=
  encodingHasDeclaredLength _
theorem EncodingHasDeclaredLength.jsrIndAbs (p : Pfx) (op : Word) : EncodingHasDeclaredLength.Statement (.jsrIndAbs p op) :=
  encodingHasDeclaredLength _
theorem EncodingHasDeclaredLength.cmpAbsX (p : Pfx) (op : Word) : EncodingHasDeclaredLength.Statement (.cmpAbsX p op) :=
  encodingHasDeclaredLength _
theorem EncodingHasDeclaredLength.decAbsX (p : Pfx) (op : Word) : EncodingHasDeclaredLength.Statement (.decAbsX p op) :=
  encodingHasDeclaredLength _
theorem EncodingHasDeclaredLength.decAbsY (p : Pfx) (op : Word) : EncodingHasDeclaredLength.Statement (.decAbsY p op) :=
  encodingHasDeclaredLength _
theorem EncodingHasDeclaredLength.cpxImm (p : Pfx) (op : Word) : EncodingHasDeclaredLength.Statement (.cpxImm p op) :=
  encodingHasDeclaredLength _
theorem EncodingHasDeclaredLength.sbcIndZpX (p : Pfx) (op : Word) : EncodingHasDeclaredLength.Statement (.sbcIndZpX p op) :=
  encodingHasDeclaredLength _
theorem EncodingHasDeclaredLength.staIndAbsX (p : Pfx) (op : Word) : EncodingHasDeclaredLength.Statement (.staIndAbsX p op) :=
  encodingHasDeclaredLength _
theorem EncodingHasDeclaredLength.cpxZp (p : Pfx) (op : Word) : EncodingHasDeclaredLength.Statement (.cpxZp p op) :=
  encodingHasDeclaredLength _
theorem EncodingHasDeclaredLength.sbcZp (p : Pfx) (op : Word) : EncodingHasDeclaredLength.Statement (.sbcZp p op) :=
  encodingHasDeclaredLength _
theorem EncodingHasDeclaredLength.incZp (p : Pfx) (op : Word) : EncodingHasDeclaredLength.Statement (.incZp p op) :=
  encodingHasDeclaredLength _
theorem EncodingHasDeclaredLength.inx (p : Pfx) : EncodingHasDeclaredLength.Statement (.inx p) :=
  encodingHasDeclaredLength _
theorem EncodingHasDeclaredLength.sbcImm (p : Pfx) (op : Word) : EncodingHasDeclaredLength.Statement (.sbcImm p op) :=
  encodingHasDeclaredLength _
theorem EncodingHasDeclaredLength.nop (p : Pfx) : EncodingHasDeclaredLength.Statement (.nop p) :=
  encodingHasDeclaredLength _
theorem EncodingHasDeclaredLength.cpxAbs (p : Pfx) (op : Word) : EncodingHasDeclaredLength.Statement (.cpxAbs p op) :=
  encodingHasDeclaredLength _
theorem EncodingHasDeclaredLength.sbcAbs (p : Pfx) (op : Word) : EncodingHasDeclaredLength.Statement (.sbcAbs p op) :=
  encodingHasDeclaredLength _
theorem EncodingHasDeclaredLength.incAbs (p : Pfx) (op : Word) : EncodingHasDeclaredLength.Statement (.incAbs p op) :=
  encodingHasDeclaredLength _
theorem EncodingHasDeclaredLength.beq (p : Pfx) (op : Word) : EncodingHasDeclaredLength.Statement (.beq p op) :=
  encodingHasDeclaredLength _
theorem EncodingHasDeclaredLength.sbcIndZpY (p : Pfx) (op : Word) : EncodingHasDeclaredLength.Statement (.sbcIndZpY p op) :=
  encodingHasDeclaredLength _
theorem EncodingHasDeclaredLength.sbcIndZp (p : Pfx) (op : Word) : EncodingHasDeclaredLength.Statement (.sbcIndZp p op) :=
  encodingHasDeclaredLength _
theorem EncodingHasDeclaredLength.trp (p : Pfx) (op : Word) : EncodingHasDeclaredLength.Statement (.trp p op) :=
  encodingHasDeclaredLength _
theorem EncodingHasDeclaredLength.sbcZpX (p : Pfx) (op : Word) : EncodingHasDeclaredLength.Statement (.sbcZpX p op) :=
  encodingHasDeclaredLength _
theorem EncodingHasDeclaredLength.incZpX (p : Pfx) (op : Word) : EncodingHasDeclaredLength.Statement (.incZpX p op) :=
  encodingHasDeclaredLength _
theorem EncodingHasDeclaredLength.sed (p : Pfx) : EncodingHasDeclaredLength.Statement (.sed p) :=
  encodingHasDeclaredLength _
theorem EncodingHasDeclaredLength.sbcAbsY (p : Pfx) (op : Word) : EncodingHasDeclaredLength.Statement (.sbcAbsY p op) :=
  encodingHasDeclaredLength _
theorem EncodingHasDeclaredLength.plx (p : Pfx) : EncodingHasDeclaredLength.Statement (.plx p) :=
  encodingHasDeclaredLength _
theorem EncodingHasDeclaredLength.jsrIndAbsX (p : Pfx) (op : Word) : EncodingHasDeclaredLength.Statement (.jsrIndAbsX p op) :=
  encodingHasDeclaredLength _
theorem EncodingHasDeclaredLength.sbcAbsX (p : Pfx) (op : Word) : EncodingHasDeclaredLength.Statement (.sbcAbsX p op) :=
  encodingHasDeclaredLength _
theorem EncodingHasDeclaredLength.incAbsX (p : Pfx) (op : Word) : EncodingHasDeclaredLength.Statement (.incAbsX p op) :=
  encodingHasDeclaredLength _
theorem EncodingHasDeclaredLength.incAbsY (p : Pfx) (op : Word) : EncodingHasDeclaredLength.Statement (.incAbsY p op) :=
  encodingHasDeclaredLength _
theorem EncodingHasDeclaredLength.oraQindZpX (p : Pfx) (op : Word) : EncodingHasDeclaredLength.Statement (.oraQindZpX p op) :=
  encodingHasDeclaredLength _
theorem EncodingHasDeclaredLength.jmpQindAbs (p : Pfx) (op : Word) : EncodingHasDeclaredLength.Statement (.jmpQindAbs p op) :=
  encodingHasDeclaredLength _
theorem EncodingHasDeclaredLength.oraQindZpY (p : Pfx) (op : Word) : EncodingHasDeclaredLength.Statement (.oraQindZpY p op) :=
  encodingHasDeclaredLength _
theorem EncodingHasDeclaredLength.oraQindZp (p : Pfx) (op : Word) : EncodingHasDeclaredLength.Statement (.oraQindZp p op) :=
  encodingHasDeclaredLength _
theorem EncodingHasDeclaredLength.andQindZpX (p : Pfx) (op : Word) : EncodingHasDeclaredLength.Statement (.andQindZpX p op) :=
  encodingHasDeclaredLength _
theorem EncodingHasDeclaredLength.jmpQindAbsX (p : Pfx) (op : Word) : EncodingHasDeclaredLength.Statement (.jmpQindAbsX p op) :=
  encodingHasDeclaredLength _
theorem EncodingHasDeclaredLength.andQindZpY (p : Pfx) (op : Word) : EncodingHasDeclaredLength.Statement (.andQindZpY p op) :=
  encodingHasDeclaredLength _
theorem EncodingHasDeclaredLength.andQindZp (p : Pfx) (op : Word) : EncodingHasDeclaredLength.Statement (.andQindZp p op) :=
  encodingHasDeclaredLength _
theorem EncodingHasDeclaredLength.eorQindZpX (p : Pfx) (op : Word) : EncodingHasDeclaredLength.Statement (.eorQindZpX p op) :=
  encodingHasDeclaredLength _
theorem EncodingHasDeclaredLength.ldaQindAbsY (p : Pfx) (op : Word) : EncodingHasDeclaredLength.Statement (.ldaQindAbsY p op) :=
  encodingHasDeclaredLength _
theorem EncodingHasDeclaredLength.eorQindZpY (p : Pfx) (op : Word) : EncodingHasDeclaredLength.Statement (.eorQindZpY p op) :=
  encodingHasDeclaredLength _
theorem EncodingHasDeclaredLength.eorQindZp (p : Pfx) (op : Word) : EncodingHasDeclaredLength.Statement (.eorQindZp p op) :=
  encodingHasDeclaredLength _
theorem EncodingHasDeclaredLength.adcQindZpX (p : Pfx) (op : Word) : EncodingHasDeclaredLength.Statement (.adcQindZpX p op) :=
  encodingHasDeclaredLength _
theorem EncodingHasDeclaredLength.ldaQindAbsX (p : Pfx) (op : Word) : EncodingHasDeclaredLength.Statement (.ldaQindAbsX p op) :=
  encodingHasDeclaredLength _
theorem EncodingHasDeclaredLength.adcQindZpY (p : Pfx) (op : Word) : EncodingHasDeclaredLength.Statement (.adcQindZpY p op) :=
  encodingHasDeclaredLength _
theorem EncodingHasDeclaredLength.adcQindZp (p : Pfx) (op : Word) : EncodingHasDeclaredLength.Statement (.adcQindZp p op) :=
  encodingHasDeclaredLength _
theorem EncodingHasDeclaredLength.staQindZpX (p : Pfx) (op : Word) : EncodingHasDeclaredLength.Statement (.staQindZpX p op) :=
  encodingHasDeclaredLength _
theorem EncodingHasDeclaredLength.jsrQindAbs (p : Pfx) (op : Word) : EncodingHasDeclaredLength.Statement (.jsrQindAbs p op) :=
  encodingHasDeclaredLength _
theorem EncodingHasDeclaredLength.staQindZpY (p : Pfx) (op : Word) : EncodingHasDeclaredLength.Statement (.staQindZpY p op) :=
  encodingHasDeclaredLength _
theorem EncodingHasDeclaredLength.staQindZp (p : Pfx) (op : Word) : EncodingHasDeclaredLength.Statement (.staQindZp p op) :=
  encodingHasDeclaredLength _
theorem EncodingHasDeclaredLength.ldaQindZpX (p : Pfx) (op : Word) : EncodingHasDeclaredLength.Statement (.ldaQindZpX p op) :=
  encodingHasDeclaredLength _
theorem EncodingHasDeclaredLength.jsrQindAbsX (p : Pfx) (op : Word) : EncodingHasDeclaredLength.Statement (.jsrQindAbsX p op) :=
  encodingHasDeclaredLength _
theorem EncodingHasDeclaredLength.ldaQindZpY (p : Pfx) (op : Word) : EncodingHasDeclaredLength.Statement (.ldaQindZpY p op) :=
  encodingHasDeclaredLength _
theorem EncodingHasDeclaredLength.ldaQindZp (p : Pfx) (op : Word) : EncodingHasDeclaredLength.Statement (.ldaQindZp p op) :=
  encodingHasDeclaredLength _
theorem EncodingHasDeclaredLength.cmpQindZpX (p : Pfx) (op : Word) : EncodingHasDeclaredLength.Statement (.cmpQindZpX p op) :=
  encodingHasDeclaredLength _
theorem EncodingHasDeclaredLength.staQindAbsY (p : Pfx) (op : Word) : EncodingHasDeclaredLength.Statement (.staQindAbsY p op) :=
  encodingHasDeclaredLength _
theorem EncodingHasDeclaredLength.cmpQindZpY (p : Pfx) (op : Word) : EncodingHasDeclaredLength.Statement (.cmpQindZpY p op) :=
  encodingHasDeclaredLength _
theorem EncodingHasDeclaredLength.cmpQindZp (p : Pfx) (op : Word) : EncodingHasDeclaredLength.Statement (.cmpQindZp p op) :=
  encodingHasDeclaredLength _
theorem EncodingHasDeclaredLength.sbcQindZpX (p : Pfx) (op : Word) : EncodingHasDeclaredLength.Statement (.sbcQindZpX p op) :=
  encodingHasDeclaredLength _
theorem EncodingHasDeclaredLength.staQindAbsX (p : Pfx) (op : Word) : EncodingHasDeclaredLength.Statement (.staQindAbsX p op) :=
  encodingHasDeclaredLength _
theorem EncodingHasDeclaredLength.sbcQindZpY (p : Pfx) (op : Word) : EncodingHasDeclaredLength.Statement (.sbcQindZpY p op) :=
  encodingHasDeclaredLength _
theorem EncodingHasDeclaredLength.sbcQindZp (p : Pfx) (op : Word) : EncodingHasDeclaredLength.Statement (.sbcQindZp p op) :=
  encodingHasDeclaredLength _
theorem EncodingHasDeclaredLength.leaZpY (p : Pfx) (op : Word) : EncodingHasDeclaredLength.Statement (.leaZpY p op) :=
  encodingHasDeclaredLength _
theorem EncodingHasDeclaredLength.mvn (p : Pfx) : EncodingHasDeclaredLength.Statement (.mvn p) :=
  encodingHasDeclaredLength _
theorem EncodingHasDeclaredLength.asrZp (p : Pfx) (op : Word) : EncodingHasDeclaredLength.Statement (.asrZp p op) :=
  encodingHasDeclaredLength _
theorem EncodingHasDeclaredLength.phe (p : Pfx) : EncodingHasDeclaredLength.Statement (.phe p) :=
  encodingHasDeclaredLength _
theorem EncodingHasDeclaredLength.oraE (p : Pfx) : EncodingHasDeclaredLength.Statement (.oraE p) :=
  encodingHasDeclaredLength _
theorem EncodingHasDeclaredLength.asrA (p : Pfx) : EncodingHasDeclaredLength.Statement (.asrA p) :=
  encodingHasDeclaredLength _
theorem EncodingHasDeclaredLength.tsbE (p : Pfx) : EncodingHasDeclaredLength.Statement (.tsbE p) :=
  encodingHasDeclaredLength _
theorem EncodingHasDeclaredLength.aslE (p : Pfx) : EncodingHasDeclaredLength.Statement (.aslE p) :=
  encodingHasDeclaredLength _
theorem EncodingHasDeclaredLength.asrAbs (p : Pfx) (op : Word) : EncodingHasDeclaredLength.Statement (.asrAbs p op) :=
  encodingHasDeclaredLength _
theorem EncodingHasDeclaredLength.mvp (p : Pfx) : EncodingHasDeclaredLength.Statement (.mvp p) :=
  encodingHasDeclaredLength _
theorem EncodingHasDeclaredLength.asrZpX (p : Pfx) (op : Word) : EncodingHasDeclaredLength.Statement (.asrZpX p op) :=
  encodingHasDeclaredLength _
theorem EncodingHasDeclaredLength.trbE (p : Pfx) : EncodingHasDeclaredLength.Statement (.trbE p) :=
  encodingHasDeclaredLength _
theorem EncodingHasDeclaredLength.asrE (p : Pfx) : EncodingHasDeclaredLength.Statement (.asrE p) :=
  encodingHasDeclaredLength _
theorem EncodingHasDeclaredLength.asrAbsX (p : Pfx) (op : Word) : EncodingHasDeclaredLength.Statement (.asrAbsX p op) :=
  encodingHasDeclaredLength _
theorem EncodingHasDeclaredLength.asrAbsY (p : Pfx) (op : Word) : EncodingHasDeclaredLength.Statement (.asrAbsY p op) :=
  encodingHasDeclaredLength _
theorem EncodingHasDeclaredLength.jsrE (p : Pfx) : EncodingHasDeclaredLength.Statement (.jsrE p) :=
  encodingHasDeclaredLength _
theorem EncodingHasDeclaredLength.peaZpY (p : Pfx) (op : Word) : EncodingHasDeclaredLength.Statement (.peaZpY p op) :=
  encodingHasDeclaredLength _
theorem EncodingHasDeclaredLength.fil (p : Pfx) : EncodingHasDeclaredLength.Statement (.fil p) :=
  encodingHasDeclaredLength _
theorem EncodingHasDeclaredLength.adeImm (p : Pfx) (op : Word) : EncodingHasDeclaredLength.Statement (.adeImm p op) :=
  encodingHasDeclaredLength _
theorem EncodingHasDeclaredLength.rdlZp (p : Pfx) (op : Word) : EncodingHasDeclaredLength.Statement (.rdlZp p op) :=
  encodingHasDeclaredLength _
theorem EncodingHasDeclaredLength.ple (p : Pfx) : EncodingHasDeclaredLength.Statement (.ple p) :=
  encodingHasDeclaredLength _
theorem EncodingHasDeclaredLength.andE (p : Pfx) : EncodingHasDeclaredLength.Statement (.andE p) :=
  encodingHasDeclaredLength _
theorem EncodingHasDeclaredLength.rdlA (p : Pfx) : EncodingHasDeclaredLength.Statement (.rdlA p) :=
  encodingHasDeclaredLength _
theorem EncodingHasDeclaredLength.rolE (p : Pfx) : EncodingHasDeclaredLength.Statement (.rolE p) :=
  encodingHasDeclaredLength _
theorem EncodingHasDeclaredLength.rdlAbs (p : Pfx) (op : Word) : EncodingHasDeclaredLength.Statement (.rdlAbs p op) :=
  encodingHasDeclaredLength _
theorem EncodingHasDeclaredLength.bitA (p : Pfx) : EncodingHasDeclaredLength.Statement (.bitA p) :=
  encodingHasDeclaredLength _
theorem EncodingHasDeclaredLength.adeA (p : Pfx) : EncodingHasDeclaredLength.Statement (.adeA p) :=
  encodingHasDeclaredLength _
theorem EncodingHasDeclaredLength.rdlZpX (p : Pfx) (op : Word) : EncodingHasDeclaredLength.Statement (.rdlZpX p op) :=
  encodingHasDeclaredLength _
theorem EncodingHasDeclaredLength.ldeImm (p : Pfx) (op : Word) : EncodingHasDeclaredLength.Statement (.ldeImm p op) :=
  encodingHasDeclaredLength _
theorem EncodingHasDeclaredLength.rdlE (p : Pfx) : EncodingHasDeclaredLength.Statement (.rdlE p) :=
  encodingHasDeclaredLength _
theorem EncodingHasDeclaredLength.rdlAbsX (p : Pfx) (op : Word) : EncodingHasDeclaredLength.Statement (.rdlAbsX p op) :=
  encodingHasDeclaredLength _
theorem EncodingHasDeclaredLength.rdlAbsY (p : Pfx) (op : Word) : EncodingHasDeclaredLength.Statement (.rdlAbsY p op) :=
  encodingHasDeclaredLength _
theorem EncodingHasDeclaredLength.leaIndAbsY (p : Pfx) (op : Word) : EncodingHasDeclaredLength.Statement (.leaIndAbsY p op) :=
  encodingHasDeclaredLength _
theorem EncodingHasDeclaredLength.leaRelWide (p : Pfx) (op : Word) : EncodingHasDeclaredLength.Statement (.leaRelWide p op) :=
  encodingHasDeclaredLength _
theorem EncodingHasDeclaredLength.adsImm (p : Pfx) (op : Word) : EncodingHasDeclaredLength.Statement (.adsImm p op) :=
  encodingHasDeclaredLength _
theorem EncodingHasDeclaredLength.phb (p : Pfx) : EncodingHasDeclaredLength.Statement (.phb p) :=
  encodingHasDeclaredLength _
theorem EncodingHasDeclaredLength.eorE (p : Pfx) : EncodingHasDeclaredLength.Statement (.eorE p) :=
  encodingHasDeclaredLength _
theorem EncodingHasDeclaredLength.lsrE (p : Pfx) : EncodingHasDeclaredLength.Statement (.lsrE p) :=
  encodingHasDeclaredLength _
theorem EncodingHasDeclaredLength.peaRelWide (p : Pfx) (op : Word) : EncodingHasDeclaredLength.Statement (.peaRelWide p op) :=
  encodingHasDeclaredLength _
theorem EncodingHasDeclaredLength.adsA (p : Pfx) : EncodingHasDeclaredLength.Statement (.adsA p) :=
  encodingHasDeclaredLength _
theorem EncodingHasDeclaredLength.prb (p : Pfx) : EncodingHasDeclaredLength.Statement (.prb p) :=
  encodingHasDeclaredLength _
theorem EncodingHasDeclaredLength.ldbImm (p : Pfx) (op : Word) : EncodingHasDeclaredLength.Statement (.ldbImm p op) :=
  encodingHasDeclaredLength _
theorem EncodingHasDeclaredLength.leaIndAbsX (p : Pfx) (op : Word) : EncodingHasDeclaredLength.Statement (.leaIndAbsX p op) :=
  encodingHasDeclaredLength _
theorem EncodingHasDeclaredLength.rmb (p : Pfx) : EncodingHasDeclaredLength.Statement (.rmb p) :=
  encodingHasDeclaredLength _
theorem EncodingHasDeclaredLength.adbImm (p : Pfx) (op : Word) : EncodingHasDeclaredLength.Statement (.adbImm p op) :=
  encodingHasDeclaredLength _
theorem EncodingHasDeclaredLength.rdrZp (p : Pfx) (op : Word) : EncodingHasDeclaredLength.Statement (.rdrZp p op) :=
  encodingHasDeclaredLength _
theorem EncodingHasDeclaredLength.plb (p : Pfx) : EncodingHasDeclaredLength.Statement (.plb p) :=
  encodingHasDeclaredLength _
theorem EncodingHasDeclaredLength.adcE (p : Pfx) : EncodingHasDeclaredLength.Statement (.adcE p) :=
  encodingHasDeclaredLength _
theorem EncodingHasDeclaredLength.rdrA (p : Pfx) : EncodingHasDeclaredLength.Statement (.rdrA p) :=
  encodingHasDeclaredLength _
theorem EncodingHasDeclaredLength.rorE (p : Pfx) : EncodingHasDeclaredLength.Statement (.rorE p) :=
  encodingHasDeclaredLength _
theorem EncodingHasDeclaredLength.rdrAbs (p : Pfx) (op : Word) : EncodingHasDeclaredLength.Statement (.rdrAbs p op) :=
  encodingHasDeclaredLength _
theorem EncodingHasDeclaredLength.wmb (p : Pfx) : EncodingHasDeclaredLength.Statement (.wmb p) :=
  encodingHasDeclaredLength _
theorem EncodingHasDeclaredLength.adbA (p : Pfx) : EncodingHasDeclaredLength.Statement (.adbA p) :=
  encodingHasDeclaredLength _
theorem EncodingHasDeclaredLength.rdrZpX (p : Pfx) (op : Word) : EncodingHasDeclaredLength.Statement (.rdrZpX p op) :=
  encodingHasDeclaredLength _
theorem EncodingHasDeclaredLength.rdrE (p : Pfx) : EncodingHasDeclaredLength.Statement (.rdrE p) :=
  encodingHasDeclaredLength _
theorem EncodingHasDeclaredLength.rdrAbsX (p : Pfx) (op : Word) : EncodingHasDeclaredLength.Statement (.rdrAbsX p op) :=
  encodingHasDeclaredLength _
theorem EncodingHasDeclaredLength.rdrAbsY (p : Pfx) (op : Word) : EncodingHasDeclaredLength.Statement (.rdrAbsY p op) :=
  encodingHasDeclaredLength _
theorem EncodingHasDeclaredLength.leaRel (p : Pfx) (op : Word) : EncodingHasDeclaredLength.Statement (.leaRel p op) :=
  encodingHasDeclaredLength _
theorem EncodingHasDeclaredLength.peaIndZpX (p : Pfx) (op : Word) : EncodingHasDeclaredLength.Statement (.peaIndZpX p op) :=
  encodingHasDeclaredLength _
theorem EncodingHasDeclaredLength.peaRel (p : Pfx) (op : Word) : EncodingHasDeclaredLength.Statement (.peaRel p op) :=
  encodingHasDeclaredLength _
theorem EncodingHasDeclaredLength.scaE (p : Pfx) : EncodingHasDeclaredLength.Statement (.scaE p) :=
  encodingHasDeclaredLength _
theorem EncodingHasDeclaredLength.peaZp (p : Pfx) (op : Word) : EncodingHasDeclaredLength.Statement (.peaZp p op) :=
  encodingHasDeclaredLength _
theorem EncodingHasDeclaredLength.leaZp (p : Pfx) (op : Word) : EncodingHasDeclaredLength.Statement (.leaZp p op) :=
  encodingHasDeclaredLength _
theorem EncodingHasDeclaredLength.tae (p : Pfx) : EncodingHasDeclaredLength.Statement (.tae p) :=
  encodingHasDeclaredLength _
theorem EncodingHasDeclaredLength.bitE (p : Pfx) : EncodingHasDeclaredLength.Statement (.bitE p) :=
  encodingHasDeclaredLength _
theorem EncodingHasDeclaredLength.tys (p : Pfx) : EncodingHasDeclaredLength.Statement (.tys p) :=
  encodingHasDeclaredLength _
theorem EncodingHasDeclaredLength.styE (p : Pfx) : EncodingHasDeclaredLength.Statement (.styE p) :=
  encodingHasDeclaredLength _
theorem EncodingHasDeclaredLength.staE (p : Pfx) : EncodingHasDeclaredLength.Statement (.staE p) :=
  encodingHasDeclaredLength _
theorem EncodingHasDeclaredLength.stxE (p : Pfx) : EncodingHasDeclaredLength.Statement (.stxE p) :=
  encodingHasDeclaredLength _
theorem EncodingHasDeclaredLength.peaIndZpY (p : Pfx) (op : Word) : EncodingHasDeclaredLength.Statement (.peaIndZpY p op) :=
  encodingHasDeclaredLength _
theorem EncodingHasDeclaredLength.peaIndZp (p : Pfx) (op : Word) : EncodingHasDeclaredLength.Statement (.peaIndZp p op) :=
  encodingHasDeclaredLength _
theorem EncodingHasDeclaredLength.llaE (p : Pfx) : EncodingHasDeclaredLength.Statement (.llaE p) :=
  encodingHasDeclaredLength _
theorem EncodingHasDeclaredLength.peaZpX (p : Pfx) (op : Word) : EncodingHasDeclaredLength.Statement (.peaZpX p op) :=
  encodingHasDeclaredLength _
theorem EncodingHasDeclaredLength.leaZpX (p : Pfx) (op : Word) : EncodingHasDeclaredLength.Statement (.leaZpX p op) :=
  encodingHasDeclaredLength _
theorem EncodingHasDeclaredLength.tea (p : Pfx) : EncodingHasDeclaredLength.Statement (.tea p) :=
  encodingHasDeclaredLength _
theorem EncodingHasDeclaredLength.peaAbsY (p : Pfx) (op : Word) : EncodingHasDeclaredLength.Statement (.peaAbsY p op) :=
  encodingHasDeclaredLength _
theorem EncodingHasDeclaredLength.sxy (p : Pfx) : EncodingHasDeclaredLength.Statement (.sxy p) :=
  encodingHasDeclaredLength _
theorem EncodingHasDeclaredLength.stzE (p : Pfx) : EncodingHasDeclaredLength.Statement (.stzE p) :=
  encodingHasDeclaredLength _
theorem EncodingHasDeclaredLength.stzAbsY (p : Pfx) (op : Word) : EncodingHasDeclaredLength.Statement (.stzAbsY p op) :=
  encodingHasDeclaredLength _
theorem EncodingHasDeclaredLength.ldyE (p : Pfx) : EncodingHasDeclaredLength.Statement (.ldyE p) :=
  encodingHasDeclaredLength _
theorem EncodingHasDeclaredLength.leaIndZpX (p : Pfx) (op : Word) : EncodingHasDeclaredLength.Statement (.leaIndZpX p op) :=
  encodingHasDeclaredLength _
theorem EncodingHasDeclaredLength.ldxE (p : Pfx) : EncodingHasDeclaredLength.Statement (.ldxE p) :=
  encodingHasDeclaredLength _
theorem EncodingHasDeclaredLength.invA (p : Pfx) : EncodingHasDeclaredLength.Statement (.invA p) :=
  encodingHasDeclaredLength _
theorem EncodingHasDeclaredLength.sbeImm (p : Pfx) (op : Word) : EncodingHasDeclaredLength.Statement (.sbeImm p op) :=
  encodingHasDeclaredLength _
theorem EncodingHasDeclaredLength.ldaE (p : Pfx) : EncodingHasDeclaredLength.Statement (.ldaE p) :=
  encodingHasDeclaredLength _
theorem EncodingHasDeclaredLength.peaAbs (p : Pfx) (op : Word) : EncodingHasDeclaredLength.Statement (.peaAbs p op) :=
  encodingHasDeclaredLength _
theorem EncodingHasDeclaredLength.leaAbs (p : Pfx) (op : Word) : EncodingHasDeclaredLength.Statement (.leaAbs p op) :=
  encodingHasDeclaredLength _
theorem EncodingHasDeclaredLength.leaIndZpY (p : Pfx) (op : Word) : EncodingHasDeclaredLength.Statement (.leaIndZpY p op) :=
  encodingHasDeclaredLength _
theorem EncodingHasDeclaredLength.leaIndZp (p : Pfx) (op : Word) : EncodingHasDeclaredLength.Statement (.leaIndZp p op) :=
  encodingHasDeclaredLength _
theorem EncodingHasDeclaredLength.bcnA (p : Pfx) : EncodingHasDeclaredLength.Statement (.bcnA p) :=
  encodingHasDeclaredLength _
theorem EncodingHasDeclaredLength.sbeA (p : Pfx) : EncodingHasDeclaredLength.Statement (.sbeA p) :=
  encodingHasDeclaredLength _
theorem EncodingHasDeclaredLength.seb (p : Pfx) : EncodingHasDeclaredLength.Statement (.seb p) :=
  encodingHasDeclaredLength _
theorem EncodingHasDeclaredLength.leaAbsY (p : Pfx) (op : Word) : EncodingHasDeclaredLength.Statement (.leaAbsY p op) :=
  encodingHasDeclaredLength _
theorem EncodingHasDeclaredLength.sax (p : Pfx) : EncodingHasDeclaredLength.Statement (.sax p) :=
  encodingHasDeclaredLength _
theorem EncodingHasDeclaredLength.bcnE (p : Pfx) : EncodingHasDeclaredLength.Statement (.bcnE p) :=
  encodingHasDeclaredLength _
theorem EncodingHasDeclaredLength.peaAbsX (p : Pfx) (op : Word) : EncodingHasDeclaredLength.Statement (.peaAbsX p op) :=
  encodingHasDeclaredLength _
theorem EncodingHasDeclaredLength.leaAbsX (p : Pfx) (op : Word) : EncodingHasDeclaredLength.Statement (.leaAbsX p op) :=
  encodingHasDeclaredLength _
theorem EncodingHasDeclaredLength.cpyE (p : Pfx) : EncodingHasDeclaredLength.Statement (.cpyE p) :=
  encodingHasDeclaredLength _
theorem EncodingHasDeclaredLength.peaIndAbsY (p : Pfx) (op : Word) : EncodingHasDeclaredLength.Statement (.peaIndAbsY p op) :=
  encodingHasDeclaredLength _
theorem EncodingHasDeclaredLength.extA (p : Pfx) : EncodingHasDeclaredLength.Statement (.extA p) :=
  encodingHasDeclaredLength _
theorem EncodingHasDeclaredLength.sbsImm (p : Pfx) (op : Word) : EncodingHasDeclaredLength.Statement (.sbsImm p op) :=
  encodingHasDeclaredLength _
theorem EncodingHasDeclaredLength.tpa (p : Pfx) : EncodingHasDeclaredLength.Statement (.tpa p) :=
  encodingHasDeclaredLength _
theorem EncodingHasDeclaredLength.cmpE (p : Pfx) : EncodingHasDeclaredLength.Statement (.cmpE p) :=
  encodingHasDeclaredLength _
theorem EncodingHasDeclaredLength.tsy (p : Pfx) : EncodingHasDeclaredLength.Statement (.tsy p) :=
  encodingHasDeclaredLength _
theorem EncodingHasDeclaredLength.decE (p : Pfx) : EncodingHasDeclaredLength.Statement (.decE p) :=
  encodingHasDeclaredLength _
theorem EncodingHasDeclaredLength.swpA (p : Pfx) : EncodingHasDeclaredLength.Statement (.swpA p) :=
  encodingHasDeclaredLength _
theorem EncodingHasDeclaredLength.sbsA (p : Pfx) : EncodingHasDeclaredLength.Statement (.sbsA p) :=
  encodingHasDeclaredLength _
theorem EncodingHasDeclaredLength.sae (p : Pfx) : EncodingHasDeclaredLength.Statement (.sae p) :=
  encodingHasDeclaredLength _
theorem EncodingHasDeclaredLength.say (p : Pfx) : EncodingHasDeclaredLength.Statement (.say p) :=
  encodingHasDeclaredLength _
theorem EncodingHasDeclaredLength.cpxE (p : Pfx) : EncodingHasDeclaredLength.Statement (.cpxE p) :=
  encodingHasDeclaredLength _
theorem EncodingHasDeclaredLength.peaIndAbsX (p : Pfx) (op : Word) : EncodingHasDeclaredLength.Statement (.peaIndAbsX p op) :=
  encodingHasDeclaredLength _
theorem EncodingHasDeclaredLength.rmbE (p : Pfx) : EncodingHasDeclaredLength.Statement (.rmbE p) :=
  encodingHasDeclaredLength _
theorem EncodingHasDeclaredLength.sbbImm (p : Pfx) (op : Word) : EncodingHasDeclaredLength.Statement (.sbbImm p op) :=
  encodingHasDeclaredLength _
theorem EncodingHasDeclaredLength.tab (p : Pfx) : EncodingHasDeclaredLength.Statement (.tab p) :=
  encodingHasDeclaredLength _
theorem EncodingHasDeclaredLength.sbcE (p : Pfx) : EncodingHasDeclaredLength.Statement (.sbcE p) :=
  encodingHasDeclaredLength _
theorem EncodingHasDeclaredLength.teb (p : Pfx) : EncodingHasDeclaredLength.Statement (.teb p) :=
  encodingHasDeclaredLength _
theorem EncodingHasDeclaredLength.incE (p : Pfx) : EncodingHasDeclaredLength.Statement (.incE p) :=
  encodingHasDeclaredLength _
theorem EncodingHasDeclaredLength.wmbE (p : Pfx) : EncodingHasDeclaredLength.Statement (.wmbE p) :=
  encodingHasDeclaredLength _
theorem EncodingHasDeclaredLength.sbbA (p : Pfx) : EncodingHasDeclaredLength.Statement (.sbbA p) :=
  encodingHasDeclaredLength _
theorem EncodingHasDeclaredLength.tba (p : Pfx) : EncodingHasDeclaredLength.Statement (.tba p) :=
  encodingHasDeclaredLength _
theorem EncodingHasDeclaredLength.tbe (p : Pfx) : EncodingHasDeclaredLength.Statement (.tbe p) :=
  encodingHasDeclaredLength _
theorem EncodingHasDeclaredLength.lcr (p : Pfx) (op : Word) : EncodingHasDeclaredLength.Statement (.lcr p op) :=
  encodingHasDeclaredLength _
theorem EncodingHasDeclaredLength.senv (p : Pfx) (op : Word) : EncodingHasDeclaredLength.Statement (.senv p op) :=
  encodingHasDeclaredLength _
theorem EncodingHasDeclaredLength.senvE (p : Pfx) (op : Word) : EncodingHasDeclaredLength.Statement (.senvE p op) :=
  encodingHasDeclaredLength _
theorem EncodingHasDeclaredLength.scr (p : Pfx) (op : Word) : EncodingHasDeclaredLength.Statement (.scr p op) :=
  encodingHasDeclaredLength _
theorem EncodingHasDeclaredLength.bcr (p : Pfx) (op : Word) : EncodingHasDeclaredLength.Statement (.bcr p op) :=
  encodingHasDeclaredLength _
theorem EncodingHasDeclaredLength.smmu (p : Pfx) : EncodingHasDeclaredLength.Statement (.smmu p) :=
  encodingHasDeclaredLength _
theorem EncodingHasDeclaredLength.jpuAbs (p : Pfx) (op : Word) : EncodingHasDeclaredLength.Statement (.jpuAbs p op) :=
  encodingHasDeclaredLength _
theorem EncodingHasDeclaredLength.cleim (p : Pfx) : EncodingHasDeclaredLength.Statement (.cleim p) :=
  encodingHasDeclaredLength _
theorem EncodingHasDeclaredLength.rtu (p : Pfx) : EncodingHasDeclaredLength.Statement (.rtu p) :=
  encodingHasDeclaredLength _
theorem EncodingHasDeclaredLength.jpuIndAbs (p : Pfx) (op : Word) : EncodingHasDeclaredLength.Statement (.jpuIndAbs p op) :=
  encodingHasDeclaredLength _
theorem EncodingHasDeclaredLength.filu (p : Pfx) : EncodingHasDeclaredLength.Statement (.filu p) :=
  encodingHasDeclaredLength _
theorem EncodingHasDeclaredLength.mvnfu (p : Pfx) : EncodingHasDeclaredLength.Statement (.mvnfu p) :=
  encodingHasDeclaredLength _
theorem EncodingHasDeclaredLength.mvpfu (p : Pfx) : EncodingHasDeclaredLength.Statement (.mvpfu p) :=
  encodingHasDeclaredLength _
theorem EncodingHasDeclaredLength.wai (p : Pfx) : EncodingHasDeclaredLength.Statement (.wai p) :=
  encodingHasDeclaredLength _
theorem EncodingHasDeclaredLength.mvntu (p : Pfx) : EncodingHasDeclaredLength.Statement (.mvntu p) :=
  encodingHasDeclaredLength _
theorem EncodingHasDeclaredLength.stp (p : Pfx) : EncodingHasDeclaredLength.Statement (.stp p) :=
  encodingHasDeclaredLength _
theorem EncodingHasDeclaredLength.mvptu (p : Pfx) : EncodingHasDeclaredLength.Statement (.mvptu p) :=
  encodingHasDeclaredLength _
theorem EncodingHasDeclaredLength.inyQuick (p : Pfx) (cnt : BitVec 3) : EncodingHasDeclaredLength.Statement (.inyQuick p cnt) :=
  encodingHasDeclaredLength _
theorem EncodingHasDeclaredLength.deyQuick (p : Pfx) (cnt : BitVec 3) : EncodingHasDeclaredLength.Statement (.deyQuick p cnt) :=
  encodingHasDeclaredLength _
theorem EncodingHasDeclaredLength.inxQuick (p : Pfx) (cnt : BitVec 3) : EncodingHasDeclaredLength.Statement (.inxQuick p cnt) :=
  encodingHasDeclaredLength _
theorem EncodingHasDeclaredLength.dexQuick (p : Pfx) (cnt : BitVec 3) : EncodingHasDeclaredLength.Statement (.dexQuick p cnt) :=
  encodingHasDeclaredLength _
theorem EncodingHasDeclaredLength.incQuick (p : Pfx) (cnt : BitVec 3) : EncodingHasDeclaredLength.Statement (.incQuick p cnt) :=
  encodingHasDeclaredLength _
theorem EncodingHasDeclaredLength.decQuick (p : Pfx) (cnt : BitVec 3) : EncodingHasDeclaredLength.Statement (.decQuick p cnt) :=
  encodingHasDeclaredLength _
theorem EncodingHasDeclaredLength.rolQuick (p : Pfx) (cnt : BitVec 3) : EncodingHasDeclaredLength.Statement (.rolQuick p cnt) :=
  encodingHasDeclaredLength _
theorem EncodingHasDeclaredLength.rorQuick (p : Pfx) (cnt : BitVec 3) : EncodingHasDeclaredLength.Statement (.rorQuick p cnt) :=
  encodingHasDeclaredLength _
theorem EncodingHasDeclaredLength.aslQuick (p : Pfx) (cnt : BitVec 3) : EncodingHasDeclaredLength.Statement (.aslQuick p cnt) :=
  encodingHasDeclaredLength _
theorem EncodingHasDeclaredLength.lsrQuick (p : Pfx) (cnt : BitVec 3) : EncodingHasDeclaredLength.Statement (.lsrQuick p cnt) :=
  encodingHasDeclaredLength _
theorem EncodingHasDeclaredLength.rdlQuick (p : Pfx) (cnt : BitVec 3) : EncodingHasDeclaredLength.Statement (.rdlQuick p cnt) :=
  encodingHasDeclaredLength _
theorem EncodingHasDeclaredLength.rdrQuick (p : Pfx) (cnt : BitVec 3) : EncodingHasDeclaredLength.Statement (.rdrQuick p cnt) :=
  encodingHasDeclaredLength _
theorem EncodingHasDeclaredLength.incQuickE (p : Pfx) (cnt : BitVec 3) : EncodingHasDeclaredLength.Statement (.incQuickE p cnt) :=
  encodingHasDeclaredLength _
theorem EncodingHasDeclaredLength.decQuickE (p : Pfx) (cnt : BitVec 3) : EncodingHasDeclaredLength.Statement (.decQuickE p cnt) :=
  encodingHasDeclaredLength _
theorem EncodingHasDeclaredLength.rolQuickE (p : Pfx) (cnt : BitVec 3) : EncodingHasDeclaredLength.Statement (.rolQuickE p cnt) :=
  encodingHasDeclaredLength _
theorem EncodingHasDeclaredLength.rorQuickE (p : Pfx) (cnt : BitVec 3) : EncodingHasDeclaredLength.Statement (.rorQuickE p cnt) :=
  encodingHasDeclaredLength _
theorem EncodingHasDeclaredLength.rdlQuickE (p : Pfx) (cnt : BitVec 3) : EncodingHasDeclaredLength.Statement (.rdlQuickE p cnt) :=
  encodingHasDeclaredLength _
theorem EncodingHasDeclaredLength.rdrQuickE (p : Pfx) (cnt : BitVec 3) : EncodingHasDeclaredLength.Statement (.rdrQuickE p cnt) :=
  encodingHasDeclaredLength _
theorem EncodingHasDeclaredLength.aslQuickE (p : Pfx) (cnt : BitVec 3) : EncodingHasDeclaredLength.Statement (.aslQuickE p cnt) :=
  encodingHasDeclaredLength _
theorem EncodingHasDeclaredLength.lsrQuickE (p : Pfx) (cnt : BitVec 3) : EncodingHasDeclaredLength.Statement (.lsrQuickE p cnt) :=
  encodingHasDeclaredLength _
theorem EncodingHasDeclaredLength.slxQuick (p : Pfx) (cnt : BitVec 3) : EncodingHasDeclaredLength.Statement (.slxQuick p cnt) :=
  encodingHasDeclaredLength _
theorem EncodingHasDeclaredLength.srxQuick (p : Pfx) (cnt : BitVec 3) : EncodingHasDeclaredLength.Statement (.srxQuick p cnt) :=
  encodingHasDeclaredLength _
theorem EncodingHasDeclaredLength.slyQuick (p : Pfx) (cnt : BitVec 3) : EncodingHasDeclaredLength.Statement (.slyQuick p cnt) :=
  encodingHasDeclaredLength _
theorem EncodingHasDeclaredLength.sryQuick (p : Pfx) (cnt : BitVec 3) : EncodingHasDeclaredLength.Statement (.sryQuick p cnt) :=
  encodingHasDeclaredLength _
theorem EncodingHasDeclaredLength.asrQuick (p : Pfx) (cnt : BitVec 3) : EncodingHasDeclaredLength.Statement (.asrQuick p cnt) :=
  encodingHasDeclaredLength _
theorem EncodingHasDeclaredLength.asrQuickE (p : Pfx) (cnt : BitVec 3) : EncodingHasDeclaredLength.Statement (.asrQuickE p cnt) :=
  encodingHasDeclaredLength _
theorem EncodingHasDeclaredLength.incQuickZp (p : Pfx) (op : Word) (cnt : BitVec 3) : EncodingHasDeclaredLength.Statement (.incQuickZp p op cnt) :=
  encodingHasDeclaredLength _
theorem EncodingHasDeclaredLength.decQuickZp (p : Pfx) (op : Word) (cnt : BitVec 3) : EncodingHasDeclaredLength.Statement (.decQuickZp p op cnt) :=
  encodingHasDeclaredLength _
theorem EncodingHasDeclaredLength.rolQuickZp (p : Pfx) (op : Word) (cnt : BitVec 3) : EncodingHasDeclaredLength.Statement (.rolQuickZp p op cnt) :=
  encodingHasDeclaredLength _
theorem EncodingHasDeclaredLength.rorQuickZp (p : Pfx) (op : Word) (cnt : BitVec 3) : EncodingHasDeclaredLength.Statement (.rorQuickZp p op cnt) :=
  encodingHasDeclaredLength _
theorem EncodingHasDeclaredLength.aslQuickZp (p : Pfx) (op : Word) (cnt : BitVec 3) : EncodingHasDeclaredLength.Statement (.aslQuickZp p op cnt) :=
  encodingHasDeclaredLength _
theorem EncodingHasDeclaredLength.lsrQuickZp (p : Pfx) (op : Word) (cnt : BitVec 3) : EncodingHasDeclaredLength.Statement (.lsrQuickZp p op cnt) :=
  encodingHasDeclaredLength _

end Sys2Proof.Laws
end

