-- ==== Sys2Proof/Tests/Slice0.lean ====
section
/-! SUPPORT. Tests: the decoding of one word of every row, written out from the encoding tables of spec/30_encoding.md; what is
ill-formed and what is refused; single steps with the results of spec/95_test_vectors.md; and for every statement with
hypotheses a state and operands that meet them. -/

set_option maxRecDepth 20000

namespace Sys2Proof.Tests

open Sys2Proof Sys2Proof.Machine Sys2Proof.Claims

/-! ### The states of the tests -/

/-- A prefix1 byte alone. -/
def one (o : OffsetReg) (z : Size) (am : Bool) : Pfx := { p1 := some { offset := o, size := z, am := am }, p2 := none }

/-- A prefix2 byte alone. -/
def two (um : Bool) (e : Extension) (nf : Bool) : Pfx := { p1 := none, p2 := some { um := um, ext := e, nf := nf } }

/-- After reset, with `I` clear too. -/
def noFlags : Status := { State.reset.sr with i := false }

/-- `W = 32`, hypervisor mode, at `$1000`. -/
def start : State := { State.reset with pc := 0x1000, e := 0x4000, sph := 0x1FF, sr := noFlags }

/-- The parameters of a 16-bit machine. -/
def cfg16 : Config := { Config.standard with width := .w16 }

/-- The parameters of a 64-bit machine. -/
def cfg64 : Config := { Config.standard with width := .w64 }

/-- The parameters of a machine without the hypervisor option. -/
def cfgBare : Config := { Config.standard with hyp := false, mmu := false, ncont := 0 }

/-- The all-zero container set. -/
def unset : Container := { mask := 0, cmp := 0, off := 0 }

/-- User mode, with a container that moves user addresses below `$10000` up by `$10000` (spec/95 section 2.12). -/
def user : State := { start with
  sr := { noFlags with h := false, p := false }
  spu := 0x1FF
  muCode := 0x12
  mh := 1
  cont := { mask := 0xFFFF00FF, cmp := 0x12, off := 0x10001 } :: List.replicate 7 unset }

/-- The state of spec/95 section 2.2. -/
def addressed : State := { start with
  x := 4
  y := 0x10
  b := 0x100000
  sph := 0x1F0
  mem := [(0x21, 0x30), (0x24, 0x78), (0x25, 0x56), (0x26, 0x34), (0x27, 0x12), (0x28, 0xEF), (0x29, 0xCD), (0x2A, 0xAB),
    (0x2B, 0x89), (0x2C, 0x67), (0x2D, 0x45), (0x2E, 0x23), (0x2F, 0x01), (0x3001, 0x50)] }

/-- The bytes run as the next instruction give a next state that is as asked. -/
noncomputable def runs (s : State) (bytes : List Byte) (good : State → Bool) : Bool := match step (placeBytes s s.pc bytes) with
  | .next t => good t
  | _ => false

/-- The bytes run as the next instruction are refused for this reason. -/
noncomputable def refusedWith (s : State) (bytes : List Byte) (r : Refusal) : Bool := match step (placeBytes s s.pc bytes) with
  | .refused q => q == r
  | _ => false

/-- The next step of a state gives a next state that is as asked. -/
noncomputable def goesOn (s : State) (good : State → Bool) : Bool := match step s with
  | .next t => good t
  | _ => false

/-- These bytes stand at these physical addresses. -/
def holds (t : State) (cs : List Host.Cell) : Bool := cs.all fun c => t.mem.byteAt c.1 == c.2

/-! ### Decoding: one word of every row (R172 to R177) -/

/-- Standard page, high nibble 0: the words of R172. -/
theorem test_decode_std_0 : ∀ c ∈ ([
    ([0x00], .brk .none),
    ([0x01, 0x9A], .oraIndZpX .none 0x9A),
    ([0x02, 0x9A], .ldaZpY .none 0x9A),
    ([0x04, 0x9A], .tsbZp .none 0x9A),
    ([0x05, 0x9A], .oraZp .none 0x9A),
    ([0x06, 0x9A], .aslZp .none 0x9A),
    ([0x08], .php .none),
    ([0x09, 0x9A], .oraImm .none 0x9A),
    ([0x0A], .aslA .none),
    ([0x0C, 0x9A, 0xBC], .tsbAbs .none 0xBC9A),
    ([0x0D, 0x9A, 0xBC], .oraAbs .none 0xBC9A),
    ([0x0E, 0x9A, 0xBC], .aslAbs .none 0xBC9A)] : List (List Byte × Instr)), decode .at94 c.1 = .ok (c.2, []) := by decide

/-- Standard page, high nibble 1: the words of R172. -/
theorem test_decode_std_1 : ∀ c ∈ ([
    ([0x10, 0x9A], .bpl .none 0x9A),
    ([0x11, 0x9A], .oraIndZpY .none 0x9A),
    ([0x12, 0x9A], .oraIndZp .none 0x9A),
    ([0x14, 0x9A], .trbZp .none 0x9A),
    ([0x15, 0x9A], .oraZpX .none 0x9A),
    ([0x16, 0x9A], .aslZpX .none 0x9A),
    ([0x18], .clc .none),
    ([0x19, 0x9A, 0xBC], .oraAbsY .none 0xBC9A),
    ([0x1A], .incA .none),
    ([0x1C, 0x9A, 0xBC], .trbAbs .none 0xBC9A),
    ([0x1D, 0x9A, 0xBC], .oraAbsX .none 0xBC9A),
    ([0x1E, 0x9A, 0xBC], .aslAbsX .none 0xBC9A),
    ([0x1F, 0x9A, 0xBC], .aslAbsY .none 0xBC9A)] : List (List Byte × Instr)), decode .at94 c.1 = .ok (c.2, []) := by decide

/-- Standard page, high nibble 2: the words of R172. -/
theorem test_decode_std_2 : ∀ c ∈ ([
    ([0x20, 0x9A, 0xBC], .jsrAbs .none 0xBC9A),
    ([0x21, 0x9A], .andIndZpX .none 0x9A),
    ([0x22, 0x9A], .staZpY .none 0x9A),
    ([0x24, 0x9A], .bitZp .none 0x9A),
    ([0x25, 0x9A], .andZp .none 0x9A),
    ([0x26, 0x9A], .rolZp .none 0x9A),
    ([0x28], .plp .none),
    ([0x29, 0x9A], .andImm .none 0x9A),
    ([0x2A], .rolA .none),
    ([0x2C, 0x9A, 0xBC], .bitAbs .none 0xBC9A),
    ([0x2D, 0x9A, 0xBC], .andAbs .none 0xBC9A),
    ([0x2E, 0x9A, 0xBC], .rolAbs .none 0xBC9A)] : List (List Byte × Instr)), decode .at94 c.1 = .ok (c.2, []) := by decide

/-- Standard page, high nibble 3: the words of R172. -/
theorem test_decode_std_3 : ∀ c ∈ ([
    ([0x30, 0x9A], .bmi .none 0x9A),
    ([0x31, 0x9A], .andIndZpY .none 0x9A),
    ([0x32, 0x9A], .andIndZp .none 0x9A),
    ([0x34, 0x9A], .bitZpX .none 0x9A),
    ([0x35, 0x9A], .andZpX .none 0x9A),
    ([0x36, 0x9A], .rolZpX .none 0x9A),
    ([0x38], .sec .none),
    ([0x39, 0x9A, 0xBC], .andAbsY .none 0xBC9A),
    ([0x3A], .decA .none),
    ([0x3C, 0x9A, 0xBC], .bitAbsX .none 0xBC9A),
    ([0x3D, 0x9A, 0xBC], .andAbsX .none 0xBC9A),
    ([0x3E, 0x9A, 0xBC], .rolAbsX .none 0xBC9A),
    ([0x3F, 0x9A, 0xBC], .rolAbsY .none 0xBC9A)] : List (List Byte × Instr)), decode .at94 c.1 = .ok (c.2, []) := by decide

/-- Standard page, high nibble 4: the words of R172. -/
theorem test_decode_std_4 : ∀ c ∈ ([
    ([0x40], .rti .none),
    ([0x41, 0x9A], .eorIndZpX .none 0x9A),
    ([0x42, 0x9A, 0xBC], .ldaIndAbsY .none 0xBC9A),
    ([0x44, 0x9A, 0xBC], .bsrRelWide .none 0xBC9A),
    ([0x45, 0x9A], .eorZp .none 0x9A),
    ([0x46, 0x9A], .lsrZp .none 0x9A),
    ([0x48], .pha .none),
    ([0x49, 0x9A], .eorImm .none 0x9A),
    ([0x4A], .lsrA .none),
    ([0x4C, 0x9A, 0xBC], .jmpAbs .none 0xBC9A),
    ([0x4D, 0x9A, 0xBC], .eorAbs .none 0xBC9A),
    ([0x4E, 0x9A, 0xBC], .lsrAbs .none 0xBC9A)] : List (List Byte × Instr)), decode .at94 c.1 = .ok (c.2, []) := by decide

/-- Standard page, high nibble 5: the words of R172. -/
theorem test_decode_std_5 : ∀ c ∈ ([
    ([0x50, 0x9A], .bvc .none 0x9A),
    ([0x51, 0x9A], .eorIndZpY .none 0x9A),
    ([0x52, 0x9A], .eorIndZp .none 0x9A),
    ([0x55, 0x9A], .eorZpX .none 0x9A),
    ([0x56, 0x9A], .lsrZpX .none 0x9A),
    ([0x58], .cli .none),
    ([0x59, 0x9A, 0xBC], .eorAbsY .none 0xBC9A),
    ([0x5A], .phy .none),
    ([0x5D, 0x9A, 0xBC], .eorAbsX .none 0xBC9A),
    ([0x5E, 0x9A, 0xBC], .lsrAbsX .none 0xBC9A),
    ([0x5F, 0x9A, 0xBC], .lsrAbsY .none 0xBC9A)] : List (List Byte × Instr)), decode .at94 c.1 = .ok (c.2, []) := by decide

/-- Standard page, high nibble 6: the words of R172. -/
theorem test_decode_std_6 : ∀ c ∈ ([
    ([0x60], .rts .none),
    ([0x61, 0x9A], .adcIndZpX .none 0x9A),
    ([0x62, 0x9A, 0xBC], .ldaIndAbsX .none 0xBC9A),
    ([0x64, 0x9A], .stzZp .none 0x9A),
    ([0x65, 0x9A], .adcZp .none 0x9A),
    ([0x66, 0x9A], .rorZp .none 0x9A),
    ([0x68], .pla .none),
    ([0x69, 0x9A], .adcImm .none 0x9A),
    ([0x6A], .rorA .none),
    ([0x6C, 0x9A, 0xBC], .jmpIndAbs .none 0xBC9A),
    ([0x6D, 0x9A, 0xBC], .adcAbs .none 0xBC9A),
    ([0x6E, 0x9A, 0xBC], .rorAbs .none 0xBC9A)] : List (List Byte × Instr)), decode .at94 c.1 = .ok (c.2, []) := by decide

/-- Standard page, high nibble 7: the words of R172. -/
theorem test_decode_std_7 : ∀ c ∈ ([
    ([0x70, 0x9A], .bvs .none 0x9A),
    ([0x71, 0x9A], .adcIndZpY .none 0x9A),
    ([0x72, 0x9A], .adcIndZp .none 0x9A),
    ([0x74, 0x9A], .stzZpX .none 0x9A),
    ([0x75, 0x9A], .adcZpX .none 0x9A),
    ([0x76, 0x9A], .rorZpX .none 0x9A),
    ([0x78], .sei .none),
    ([0x79, 0x9A, 0xBC], .adcAbsY .none 0xBC9A),
    ([0x7A], .ply .none),
    ([0x7C, 0x9A, 0xBC], .jmpIndAbsX .none 0xBC9A),
    ([0x7D, 0x9A, 0xBC], .adcAbsX .none 0xBC9A),
    ([0x7E, 0x9A, 0xBC], .rorAbsX .none 0xBC9A),
    ([0x7F, 0x9A, 0xBC], .rorAbsY .none 0xBC9A)] : List (List Byte × Instr)), decode .at94 c.1 = .ok (c.2, []) := by decide

/-- Standard page, high nibble 8: the words of R172. -/
theorem test_decode_std_8 : ∀ c ∈ ([
    ([0x80, 0x9A], .bra .none 0x9A),
    ([0x81, 0x9A], .staIndZpX .none 0x9A),
    ([0x82, 0x9A], .bsrRel .none 0x9A),
    ([0x84, 0x9A], .styZp .none 0x9A),
    ([0x85, 0x9A], .staZp .none 0x9A),
    ([0x86, 0x9A], .stxZp .none 0x9A),
    ([0x88], .dey .none),
    ([0x89, 0x9A], .bitImm .none 0x9A),
    ([0x8A], .txa .none),
    ([0x8C, 0x9A, 0xBC], .styAbs .none 0xBC9A),
    ([0x8D, 0x9A, 0xBC], .staAbs .none 0xBC9A),
    ([0x8E, 0x9A, 0xBC], .stxAbs .none 0xBC9A)] : List (List Byte × Instr)), decode .at94 c.1 = .ok (c.2, []) := by decide

/-- Standard page, high nibble 9: the words of R172. -/
theorem test_decode_std_9 : ∀ c ∈ ([
    ([0x90, 0x9A], .bcc .none 0x9A),
    ([0x91, 0x9A], .staIndZpY .none 0x9A),
    ([0x92, 0x9A], .staIndZp .none 0x9A),
    ([0x94, 0x9A], .styZpX .none 0x9A),
    ([0x95, 0x9A], .staZpX .none 0x9A),
    ([0x96, 0x9A], .stxZpY .none 0x9A),
    ([0x98], .tya .none),
    ([0x99, 0x9A, 0xBC], .staAbsY .none 0xBC9A),
    ([0x9A], .txs .none),
    ([0x9C, 0x9A, 0xBC], .stzAbs .none 0xBC9A),
    ([0x9D, 0x9A, 0xBC], .staAbsX .none 0xBC9A),
    ([0x9E, 0x9A, 0xBC], .stzAbsX .none 0xBC9A),
    ([0x9F, 0x9A, 0xBC], .styAbsX .none 0xBC9A)] : List (List Byte × Instr)), decode .at94 c.1 = .ok (c.2, []) := by decide

/-- Standard page, high nibble A: the words of R172. -/
theorem test_decode_std_A : ∀ c ∈ ([
    ([0xA0, 0x9A], .ldyImm .none 0x9A),
    ([0xA1, 0x9A], .ldaIndZpX .none 0x9A),
    ([0xA2, 0x9A], .ldxImm .none 0x9A),
    ([0xA4, 0x9A], .ldyZp .none 0x9A),
    ([0xA5, 0x9A], .ldaZp .none 0x9A),
    ([0xA6, 0x9A], .ldxZp .none 0x9A),
    ([0xA8], .tay .none),
    ([0xA9, 0x9A], .ldaImm .none 0x9A),
    ([0xAA], .tax .none),
    ([0xAC, 0x9A, 0xBC], .ldyAbs .none 0xBC9A),
    ([0xAD, 0x9A, 0xBC], .ldaAbs .none 0xBC9A),
    ([0xAE, 0x9A, 0xBC], .ldxAbs .none 0xBC9A)] : List (List Byte × Instr)), decode .at94 c.1 = .ok (c.2, []) := by decide

/-- Standard page, high nibble B: the words of R172. -/
theorem test_decode_std_B : ∀ c ∈ ([
    ([0xB0, 0x9A], .bcs .none 0x9A),
    ([0xB1, 0x9A], .ldaIndZpY .none 0x9A),
    ([0xB2, 0x9A], .ldaIndZp .none 0x9A),
    ([0xB4, 0x9A], .ldyZpX .none 0x9A),
    ([0xB5, 0x9A], .ldaZpX .none 0x9A),
    ([0xB6, 0x9A], .ldxZpY .none 0x9A),
    ([0xB8], .clv .none),
    ([0xB9, 0x9A, 0xBC], .ldaAbsY .none 0xBC9A),
    ([0xBA], .tsx .none),
    ([0xBC, 0x9A, 0xBC], .ldyAbsX .none 0xBC9A),
    ([0xBD, 0x9A, 0xBC], .ldaAbsX .none 0xBC9A),
    ([0xBE, 0x9A, 0xBC], .ldxAbsY .none 0xBC9A),
    ([0xBF, 0x9A, 0xBC], .stxAbsY .none 0xBC9A)] : List (List Byte × Instr)), decode .at94 c.1 = .ok (c.2, []) := by decide

/-- Standard page, high nibble C: the words of R172. -/
theorem test_decode_std_C : ∀ c ∈ ([
    ([0xC0, 0x9A], .cpyImm .none 0x9A),
    ([0xC1, 0x9A], .cmpIndZpX .none 0x9A),
    ([0xC2, 0x9A, 0xBC], .staIndAbsY .none 0xBC9A),
    ([0xC4, 0x9A], .cpyZp .none 0x9A),
    ([0xC5, 0x9A], .cmpZp .none 0x9A),
    ([0xC6, 0x9A], .decZp .none 0x9A),
    ([0xC8], .iny .none),
    ([0xC9, 0x9A], .cmpImm .none 0x9A),
    ([0xCA], .dex .none),
    ([0xCC, 0x9A, 0xBC], .cpyAbs .none 0xBC9A),
    ([0xCD, 0x9A, 0xBC], .cmpAbs .none 0xBC9A),
    ([0xCE, 0x9A, 0xBC], .decAbs .none 0xBC9A)] : List (List Byte × Instr)), decode .at94 c.1 = .ok (c.2, []) := by decide

/-- Standard page, high nibble D: the words of R172. -/
theorem test_decode_std_D : ∀ c ∈ ([
    ([0xD0, 0x9A], .bne .none 0x9A),
    ([0xD1, 0x9A], .cmpIndZpY .none 0x9A),
    ([0xD2, 0x9A], .cmpIndZp .none 0x9A),
    ([0xD5, 0x9A], .cmpZpX .none 0x9A),
    ([0xD6, 0x9A], .decZpX .none 0x9A),
    ([0xD8], .cld .none),
    ([0xD9, 0x9A, 0xBC], .cmpAbsY .none 0xBC9A),
    ([0xDA], .phx .none),
    ([0xDC, 0x9A, 0xBC], .jsrIndAbs .none 0xBC9A),
    ([0xDD, 0x9A, 0xBC], .cmpAbsX .none 0xBC9A),
    ([0xDE, 0x9A, 0xBC], .decAbsX .none 0xBC9A),
    ([0xDF, 0x9A, 0xBC], .decAbsY .none 0xBC9A)] : List (List Byte × Instr)), decode .at94 c.1 = .ok (c.2, []) := by decide

/-- Standard page, high nibble E: the words of R172. -/
theorem test_decode_std_E : ∀ c ∈ ([
    ([0xE0, 0x9A], .cpxImm .none 0x9A),
    ([0xE1, 0x9A], .sbcIndZpX .none 0x9A),
    ([0xE2, 0x9A, 0xBC], .staIndAbsX .none 0xBC9A),
    ([0xE4, 0x9A], .cpxZp .none 0x9A),
    ([0xE5, 0x9A], .sbcZp .none 0x9A),
    ([0xE6, 0x9A], .incZp .none 0x9A),
    ([0xE8], .inx .none),
    ([0xE9, 0x9A], .sbcImm .none 0x9A),
    ([0xEA], .nop .none),
    ([0xEC, 0x9A, 0xBC], .cpxAbs .none 0xBC9A),
    ([0xED, 0x9A, 0xBC], .sbcAbs .none 0xBC9A),
    ([0xEE, 0x9A, 0xBC], .incAbs .none 0xBC9A)] : List (List Byte × Instr)), decode .at94 c.1 = .ok (c.2, []) := by decide

/-- Standard page, high nibble F: the words of R172. -/
theorem test_decode_std_F : ∀ c ∈ ([
    ([0xF0, 0x9A], .beq .none 0x9A),
    ([0xF1, 0x9A], .sbcIndZpY .none 0x9A),
    ([0xF2, 0x9A], .sbcIndZp .none 0x9A),
    ([0xF4, 0x9A], .trp .none 0x9A),
    ([0xF5, 0x9A], .sbcZpX .none 0x9A),
    ([0xF6, 0x9A], .incZpX .none 0x9A),
    ([0xF8], .sed .none),
    ([0xF9, 0x9A, 0xBC], .sbcAbsY .none 0xBC9A),
    ([0xFA], .plx .none),
    ([0xFC, 0x9A, 0xBC], .jsrIndAbsX .none 0xBC9A),
    ([0xFD, 0x9A, 0xBC], .sbcAbsX .none 0xBC9A),
    ([0xFE, 0x9A, 0xBC], .incAbsX .none 0xBC9A),
    ([0xFF, 0x9A, 0xBC], .incAbsY .none 0xBC9A)] : List (List Byte × Instr)), decode .at94 c.1 = .ok (c.2, []) := by decide

/-- Duplicate opcodes after `$07` (R174). -/
theorem test_decode_duplicate_1 : ∀ c ∈ ([
    ([0x07, 0x03, 0x9A], .oraQindZpX { p1 := some { offset := .none, size := .b8, am := true }, p2 := none } 0x9A),
    ([0x07, 0x07, 0x9A, 0xBC], .jmpQindAbs { p1 := some { offset := .none, size := .b8, am := true }, p2 := none } 0xBC9A),
    ([0x07, 0x13, 0x9A], .oraQindZpY { p1 := some { offset := .none, size := .b8, am := true }, p2 := none } 0x9A),
    ([0x07, 0x17, 0x9A], .oraQindZp { p1 := some { offset := .none, size := .b8, am := true }, p2 := none } 0x9A),
    ([0x07, 0x23, 0x9A], .andQindZpX { p1 := some { offset := .none, size := .b8, am := true }, p2 := none } 0x9A),
    ([0x07, 0x27, 0x9A, 0xBC], .jmpQindAbsX { p1 := some { offset := .none, size := .b8, am := true }, p2 := none } 0xBC9A),
    ([0x07, 0x33, 0x9A], .andQindZpY { p1 := some { offset := .none, size := .b8, am := true }, p2 := none } 0x9A),
    ([0x07, 0x37, 0x9A], .andQindZp { p1 := some { offset := .none, size := .b8, am := true }, p2 := none } 0x9A),
    ([0x07, 0x43, 0x9A], .eorQindZpX { p1 := some { offset := .none, size := .b8, am := true }, p2 := none } 0x9A),
    ([0x07, 0x47, 0x9A, 0xBC], .ldaQindAbsY { p1 := some { offset := .none, size := .b8, am := true }, p2 := none } 0xBC9A),
    ([0x07, 0x53, 0x9A], .eorQindZpY { p1 := some { offset := .none, size := .b8, am := true }, p2 := none } 0x9A),
    ([0x07, 0x57, 0x9A], .eorQindZp { p1 := some { offset := .none, size := .b8, am := true }, p2 := none } 0x9A),
    ([0x07, 0x63, 0x9A], .adcQindZpX { p1 := some { offset := .none, size := .b8, am := true }, p2 := none } 0x9A),
    ([0x07, 0x67, 0x9A, 0xBC], .ldaQindAbsX { p1 := some { offset := .none, size := .b8, am := true }, p2 := none } 0xBC9A),
    ([0x07, 0x73, 0x9A], .adcQindZpY { p1 := some { offset := .none, size := .b8, am := true }, p2 := none } 0x9A),
    ([0x07, 0x77, 0x9A], .adcQindZp { p1 := some { offset := .none, size := .b8, am := true }, p2 := none } 0x9A)] : List (List Byte × Instr)), decode .at94 c.1 = .ok (c.2, []) := by decide

/-- Duplicate opcodes after `$07` (R174). -/
theorem test_decode_duplicate_2 : ∀ c ∈ ([
    ([0x07, 0x83, 0x9A], .staQindZpX { p1 := some { offset := .none, size := .b8, am := true }, p2 := none } 0x9A),
    ([0x07, 0x87, 0x9A, 0xBC], .jsrQindAbs { p1 := some { offset := .none, size := .b8, am := true }, p2 := none } 0xBC9A),
    ([0x07, 0x93, 0x9A], .staQindZpY { p1 := some { offset := .none, size := .b8, am := true }, p2 := none } 0x9A),
    ([0x07, 0x97, 0x9A], .staQindZp { p1 := some { offset := .none, size := .b8, am := true }, p2 := none } 0x9A),
    ([0x07, 0xA3, 0x9A], .ldaQindZpX { p1 := some { offset := .none, size := .b8, am := true }, p2 := none } 0x9A),
    ([0x07, 0xA7, 0x9A, 0xBC], .jsrQindAbsX { p1 := some { offset := .none, size := .b8, am := true }, p2 := none } 0xBC9A),
    ([0x07, 0xB3, 0x9A], .ldaQindZpY { p1 := some { offset := .none, size := .b8, am := true }, p2 := none } 0x9A),
    ([0x07, 0xB7, 0x9A], .ldaQindZp { p1 := some { offset := .none, size := .b8, am := true }, p2 := none } 0x9A),
    ([0x07, 0xC3, 0x9A], .cmpQindZpX { p1 := some { offset := .none, size := .b8, am := true }, p2 := none } 0x9A),
    ([0x07, 0xC7, 0x9A, 0xBC], .staQindAbsY { p1 := some { offset := .none, size := .b8, am := true }, p2 := none } 0xBC9A),
    ([0x07, 0xD3, 0x9A], .cmpQindZpY { p1 := some { offset := .none, size := .b8, am := true }, p2 := none } 0x9A),
    ([0x07, 0xD7, 0x9A], .cmpQindZp { p1 := some { offset := .none, size := .b8, am := true }, p2 := none } 0x9A),
    ([0x07, 0xE3, 0x9A], .sbcQindZpX { p1 := some { offset := .none, size := .b8, am := true }, p2 := none } 0x9A),
    ([0x07, 0xE7, 0x9A, 0xBC], .staQindAbsX { p1 := some { offset := .none, size := .b8, am := true }, p2 := none } 0xBC9A),
    ([0x07, 0xF3, 0x9A], .sbcQindZpY { p1 := some { offset := .none, size := .b8, am := true }, p2 := none } 0x9A),
    ([0x07, 0xF7, 0x9A], .sbcQindZp { p1 := some { offset := .none, size := .b8, am := true }, p2 := none } 0x9A)] : List (List Byte × Instr)), decode .at94 c.1 = .ok (c.2, []) := by decide

/-- EXT page, high nibble 0: the words of R176. -/
theorem test_decode_ext_0 : ∀ c ∈ ([
    ([0x0F, 0x02, 0x9A], .leaZpY .none 0x9A),
    ([0x0F, 0x04], .mvn .none),
    ([0x0F, 0x06, 0x9A], .asrZp .none 0x9A),
    ([0x0F, 0x08], .phe .none),
    ([0x0F, 0x09], .oraE .none),
    ([0x0F, 0x0A], .asrA .none),
    ([0x0F, 0x0C], .tsbE .none),
    ([0x0F, 0x0D], .aslE .none),
    ([0x0F, 0x0E, 0x9A, 0xBC], .asrAbs .none 0xBC9A)] : List (List Byte × Instr)), decode .at94 c.1 = .ok (c.2, []) := by decide

/-- EXT page, high nibble 1: the words of R176. -/
theorem test_decode_ext_1 : ∀ c ∈ ([
    ([0x0F, 0x14], .mvp .none),
    ([0x0F, 0x16, 0x9A], .asrZpX .none 0x9A),
    ([0x0F, 0x1C], .trbE .none),
    ([0x0F, 0x1D], .asrE .none),
    ([0x0F, 0x1E, 0x9A, 0xBC], .asrAbsX .none 0xBC9A),
    ([0x0F, 0x1F, 0x9A, 0xBC], .asrAbsY .none 0xBC9A)] : List (List Byte × Instr)), decode .at94 c.1 = .ok (c.2, []) := by decide

/-- EXT page, high nibble 2: the words of R176. -/
theorem test_decode_ext_2 : ∀ c ∈ ([
    ([0x0F, 0x20], .jsrE .none),
    ([0x0F, 0x22, 0x9A], .peaZpY .none 0x9A),
    ([0x0F, 0x24], .fil .none),
    ([0x0F, 0x25, 0x9A], .adeImm .none 0x9A),
    ([0x0F, 0x26, 0x9A], .rdlZp .none 0x9A),
    ([0x0F, 0x28], .ple .none),
    ([0x0F, 0x29], .andE .none),
    ([0x0F, 0x2A], .rdlA .none),
    ([0x0F, 0x2D], .rolE .none),
    ([0x0F, 0x2E, 0x9A, 0xBC], .rdlAbs .none 0xBC9A)] : List (List Byte × Instr)), decode .at94 c.1 = .ok (c.2, []) := by decide

/-- EXT page, high nibble 3: the words of R176. -/
theorem test_decode_ext_3 : ∀ c ∈ ([
    ([0x0F, 0x34], .bitA .none),
    ([0x0F, 0x35], .adeA .none),
    ([0x0F, 0x36, 0x9A], .rdlZpX .none 0x9A),
    ([0x0F, 0x39, 0x9A], .ldeImm .none 0x9A),
    ([0x0F, 0x3D], .rdlE .none),
    ([0x0F, 0x3E, 0x9A, 0xBC], .rdlAbsX .none 0xBC9A),
    ([0x0F, 0x3F, 0x9A, 0xBC], .rdlAbsY .none 0xBC9A)] : List (List Byte × Instr)), decode .at94 c.1 = .ok (c.2, []) := by decide

/-- EXT page, high nibble 4: the words of R176. -/
theorem test_decode_ext_4 : ∀ c ∈ ([
    ([0x0F, 0x42, 0x9A, 0xBC], .leaIndAbsY .none 0xBC9A),
    ([0x0F, 0x44, 0x9A, 0xBC], .leaRelWide .none 0xBC9A),
    ([0x0F, 0x45, 0x9A], .adsImm .none 0x9A),
    ([0x0F, 0x48], .phb .none),
    ([0x0F, 0x49], .eorE .none),
    ([0x0F, 0x4D], .lsrE .none)] : List (List Byte × Instr)), decode .at94 c.1 = .ok (c.2, []) := by decide

/-- EXT page, high nibble 5: the words of R176. -/
theorem test_decode_ext_5 : ∀ c ∈ ([
    ([0x0F, 0x54, 0x9A, 0xBC], .peaRelWide .none 0xBC9A),
    ([0x0F, 0x55], .adsA .none),
    ([0x0F, 0x58], .prb .none),
    ([0x0F, 0x59, 0x9A], .ldbImm .none 0x9A)] : List (List Byte × Instr)), decode .at94 c.1 = .ok (c.2, []) := by decide

/-- EXT page, high nibble 6: the words of R176. -/
theorem test_decode_ext_6 : ∀ c ∈ ([
    ([0x0F, 0x62, 0x9A, 0xBC], .leaIndAbsX .none 0xBC9A),
    ([0x0F, 0x64], .rmb .none),
    ([0x0F, 0x65, 0x9A], .adbImm .none 0x9A),
    ([0x0F, 0x66, 0x9A], .rdrZp .none 0x9A),
    ([0x0F, 0x68], .plb .none),
    ([0x0F, 0x69], .adcE .none),
    ([0x0F, 0x6A], .rdrA .none),
    ([0x0F, 0x6D], .rorE .none),
    ([0x0F, 0x6E, 0x9A, 0xBC], .rdrAbs .none 0xBC9A)] : List (List Byte × Instr)), decode .at94 c.1 = .ok (c.2, []) := by decide

/-- EXT page, high nibble 7: the words of R176. -/
theorem test_decode_ext_7 : ∀ c ∈ ([
    ([0x0F, 0x74], .wmb .none),
    ([0x0F, 0x75], .adbA .none),
    ([0x0F, 0x76, 0x9A], .rdrZpX .none 0x9A),
    ([0x0F, 0x7D], .rdrE .none),
    ([0x0F, 0x7E, 0x9A, 0xBC], .rdrAbsX .none 0xBC9A),
    ([0x0F, 0x7F, 0x9A, 0xBC], .rdrAbsY .none 0xBC9A)] : List (List Byte × Instr)), decode .at94 c.1 = .ok (c.2, []) := by decide

/-- EXT page, high nibble 8: the words of R176. -/
theorem test_decode_ext_8 : ∀ c ∈ ([
    ([0x0F, 0x80, 0x9A], .leaRel .none 0x9A),
    ([0x0F, 0x81, 0x9A], .peaIndZpX .none 0x9A),
    ([0x0F, 0x82, 0x9A], .peaRel .none 0x9A),
    ([0x0F, 0x84], .scaE .none),
    ([0x0F, 0x85, 0x9A], .peaZp .none 0x9A),
    ([0x0F, 0x86, 0x9A], .leaZp .none 0x9A),
    ([0x0F, 0x88], .tae .none),
    ([0x0F, 0x89], .bitE .none),
    ([0x0F, 0x8A], .tys .none),
    ([0x0F, 0x8C], .styE .none),
    ([0x0F, 0x8D], .staE .none),
    ([0x0F, 0x8E], .stxE .none)] : List (List Byte × Instr)), decode .at94 c.1 = .ok (c.2, []) := by decide

/-- EXT page, high nibble 9: the words of R176. -/
theorem test_decode_ext_9 : ∀ c ∈ ([
    ([0x0F, 0x91, 0x9A], .peaIndZpY .none 0x9A),
    ([0x0F, 0x92, 0x9A], .peaIndZp .none 0x9A),
    ([0x0F, 0x94], .llaE .none),
    ([0x0F, 0x95, 0x9A], .peaZpX .none 0x9A),
    ([0x0F, 0x96, 0x9A], .leaZpX .none 0x9A),
    ([0x0F, 0x98], .tea .none),
    ([0x0F, 0x99, 0x9A, 0xBC], .peaAbsY .none 0xBC9A),
    ([0x0F, 0x9A], .sxy .none),
    ([0x0F, 0x9C], .stzE .none),
    ([0x0F, 0x9E, 0x9A, 0xBC], .stzAbsY .none 0xBC9A)] : List (List Byte × Instr)), decode .at94 c.1 = .ok (c.2, []) := by decide

/-- EXT page, high nibble A: the words of R176. -/
theorem test_decode_ext_A : ∀ c ∈ ([
    ([0x0F, 0xA0], .ldyE .none),
    ([0x0F, 0xA1, 0x9A], .leaIndZpX .none 0x9A),
    ([0x0F, 0xA2], .ldxE .none),
    ([0x0F, 0xA4], .invA .none),
    ([0x0F, 0xA5, 0x9A], .sbeImm .none 0x9A),
    ([0x0F, 0xA9], .ldaE .none),
    ([0x0F, 0xAD, 0x9A, 0xBC], .peaAbs .none 0xBC9A),
    ([0x0F, 0xAE, 0x9A, 0xBC], .leaAbs .none 0xBC9A)] : List (List Byte × Instr)), decode .at94 c.1 = .ok (c.2, []) := by decide

/-- EXT page, high nibble B: the words of R176. -/
theorem test_decode_ext_B : ∀ c ∈ ([
    ([0x0F, 0xB1, 0x9A], .leaIndZpY .none 0x9A),
    ([0x0F, 0xB2, 0x9A], .leaIndZp .none 0x9A),
    ([0x0F, 0xB4], .bcnA .none),
    ([0x0F, 0xB5], .sbeA .none),
    ([0x0F, 0xB8], .seb .none),
    ([0x0F, 0xB9, 0x9A, 0xBC], .leaAbsY .none 0xBC9A),
    ([0x0F, 0xBA], .sax .none),
    ([0x0F, 0xBC], .bcnE .none),
    ([0x0F, 0xBD, 0x9A, 0xBC], .peaAbsX .none 0xBC9A),
    ([0x0F, 0xBE, 0x9A, 0xBC], .leaAbsX .none 0xBC9A)] : List (List Byte × Instr)), decode .at94 c.1 = .ok (c.2, []) := by decide

/-- EXT page, high nibble C: the words of R176. -/
theorem test_decode_ext_C : ∀ c ∈ ([
    ([0x0F, 0xC0], .cpyE .none),
    ([0x0F, 0xC2, 0x9A, 0xBC], .peaIndAbsY .none 0xBC9A),
    ([0x0F, 0xC4], .extA .none),
    ([0x0F, 0xC5, 0x9A], .sbsImm .none 0x9A),
    ([0x0F, 0xC8], .tpa .none),
    ([0x0F, 0xC9], .cmpE .none),
    ([0x0F, 0xCA], .tsy .none),
    ([0x0F, 0xCD], .decE .none)] : List (List Byte × Instr)), decode .at94 c.1 = .ok (c.2, []) := by decide

/-- EXT page, high nibble D: the words of R176. -/
theorem test_decode_ext_D : ∀ c ∈ ([
    ([0x0F, 0xD4], .swpA .none),
    ([0x0F, 0xD5], .sbsA .none),
    ([0x0F, 0xD8], .sae .none),
    ([0x0F, 0xDA], .say .none)] : List (List Byte × Instr)), decode .at94 c.1 = .ok (c.2, []) := by decide

/-- EXT page, high nibble E: the words of R176. -/
theorem test_decode_ext_E : ∀ c ∈ ([
    ([0x0F, 0xE0], .cpxE .none),
    ([0x0F, 0xE2, 0x9A, 0xBC], .peaIndAbsX .none 0xBC9A),
    ([0x0F, 0xE4], .rmbE .none),
    ([0x0F, 0xE5, 0x9A], .sbbImm .none 0x9A),
    ([0x0F, 0xE8], .tab .none),
    ([0x0F, 0xE9], .sbcE .none),
    ([0x0F, 0xEA], .teb .none),
    ([0x0F, 0xED], .incE .none)] : List (List Byte × Instr)), decode .at94 c.1 = .ok (c.2, []) := by decide

/-- EXT page, high nibble F: the words of R176. -/
theorem test_decode_ext_F : ∀ c ∈ ([
    ([0x0F, 0xF4], .wmbE .none),
    ([0x0F, 0xF5], .sbbA .none),
    ([0x0F, 0xF8], .tba .none),
    ([0x0F, 0xFA], .tbe .none)] : List (List Byte × Instr)), decode .at94 c.1 = .ok (c.2, []) := by decide

/-- SYS page: the words of R177, with the default of SYS_MVNFU_AT. -/
theorem test_decode_sys : ∀ c ∈ ([
    ([0x2F, 0x01, 0x9A], .lcr .none 0x9A),
    ([0x2F, 0x04, 0x9A], .senv .none 0x9A),
    ([0x2F, 0x14, 0x9A], .senvE .none 0x9A),
    ([0x2F, 0x21, 0x9A], .scr .none 0x9A),
    ([0x2F, 0x41, 0x9A], .bcr .none 0x9A),
    ([0x2F, 0x44], .smmu .none),
    ([0x2F, 0x4C, 0x9A, 0xBC], .jpuAbs .none 0xBC9A),
    ([0x2F, 0x55], .cleim .none),
    ([0x2F, 0x60], .rtu .none),
    ([0x2F, 0x6C, 0x9A, 0xBC], .jpuIndAbs .none 0xBC9A),
    ([0x2F, 0x74], .filu .none),
    ([0x2F, 0x94], .mvnfu .none),
    ([0x2F, 0xB4], .mvpfu .none),
    ([0x2F, 0xD1], .wai .none),
    ([0x2F, 0xD4], .mvntu .none),
    ([0x2F, 0xF1], .stp .none),
    ([0x2F, 0xF4], .mvptu .none)] : List (List Byte × Instr)), decode .at94 c.1 = .ok (c.2, []) := by decide

/-- QUICK page, bit 7 clear: the words of R175 with various counts. -/
theorem test_decode_quick_up : ∀ c ∈ ([
    ([0x4F, 0x10], .inyQuick .none 1),
    ([0x4F, 0x71], .inxQuick .none 7),
    ([0x4F, 0x52], .incQuick .none 5),
    ([0x4F, 0x33], .rolQuick .none 3),
    ([0x4F, 0x14], .aslQuick .none 1),
    ([0x4F, 0x75], .rdlQuick .none 7),
    ([0x4F, 0x56], .incQuickE .none 5),
    ([0x4F, 0x37], .rolQuickE .none 3),
    ([0x4F, 0x18], .rdlQuickE .none 1),
    ([0x4F, 0x79], .aslQuickE .none 7),
    ([0x4F, 0x5A], .slxQuick .none 5),
    ([0x4F, 0x3B], .slyQuick .none 3),
    ([0x4F, 0x1C], .asrQuick .none 1),
    ([0x4F, 0x7D, 0x9A], .incQuickZp .none 0x9A 7),
    ([0x4F, 0x5E, 0x9A], .rolQuickZp .none 0x9A 5),
    ([0x4F, 0x3F, 0x9A], .aslQuickZp .none 0x9A 3)] : List (List Byte × Instr)), decode .at94 c.1 = .ok (c.2, []) := by decide

/-- QUICK page, bit 7 set: the words of R175 with various counts. -/
theorem test_decode_quick_down : ∀ c ∈ ([
    ([0x4F, 0xC0], .deyQuick .none 4),
    ([0x4F, 0xA1], .dexQuick .none 2),
    ([0x4F, 0x82], .decQuick .none 0),
    ([0x4F, 0xE3], .rorQuick .none 6),
    ([0x4F, 0xC4], .lsrQuick .none 4),
    ([0x4F, 0xA5], .rdrQuick .none 2),
    ([0x4F, 0x86], .decQuickE .none 0),
    ([0x4F, 0xE7], .rorQuickE .none 6),
    ([0x4F, 0xC8], .rdrQuickE .none 4),
    ([0x4F, 0xA9], .lsrQuickE .none 2),
    ([0x4F, 0x8A], .srxQuick .none 0),
    ([0x4F, 0xEB], .sryQuick .none 6),
    ([0x4F, 0xCC], .asrQuickE .none 4),
    ([0x4F, 0xAD, 0x9A], .decQuickZp .none 0x9A 2),
    ([0x4F, 0x8E, 0x9A], .rorQuickZp .none 0x9A 0),
    ([0x4F, 0xEF, 0x9A], .lsrQuickZp .none 0x9A 6)] : List (List Byte × Instr)), decode .at94 c.1 = .ok (c.2, []) := by decide

/-- Words with prefixes (spec/95 section 2.1). -/
theorem test_decode_prefixed : ∀ c ∈ ([
    ([0x03, 0xA9, 0x12], .ldaImm (one .none .b8 false) 0x12),
    ([0x23, 0xA9, 0x78, 0x56, 0x34, 0x12], .ldaImm (one .none .b32 false) 0x12345678),
    ([0x2B, 0x69, 0x92], .adcImm (two false .sign false) 0x92),
    ([0x13, 0x4B, 0x0F, 0xC4], .extA { one .none .b16 false with p2 := (two false .zero false).p2 }),
    ([0x13, 0x4F, 0x71], .inxQuick (one .none .b16 false) 7),
    ([0x07, 0xA5, 0x00, 0x00, 0x01, 0x00], .ldaZp (one .none .b8 true) 0x10000),
    ([0x07, 0xAD, 0x00, 0x00, 0x01, 0x00, 0x00, 0x00, 0x00, 0x00], .ldaAbs (one .none .b8 true) 0x10000),
    ([0x07, 0x4B, 0xB7, 0x20], .ldaQindZp { one .none .b8 true with p2 := (two false .zero false).p2 } 0x20),
    ([0xA7, 0xA5, 0x10, 0x00, 0x00, 0x00], .ldaZp (one .sp .b32 true) 0x10),
    ([0x33, 0x6B, 0x0F, 0x25, 0x88, 0x77, 0x66, 0x55, 0x44, 0x33, 0x22, 0x11],
      .adeImm { one .none .b64 false with p2 := (two false .ones false).p2 } 0x1122334455667788),
    ([0x0B, 0x18], .clc (two false .none false)),
    ([0x8B, 0xA5, 0x20], .ldaZp (two true .none false) 0x20),
    ([0xC3, 0xB5, 0x12], .ldaZpX (one .b .b8 false) 0x12),
    ([0x43, 0xB1, 0x12], .ldaIndZpY (one .pc .b8 false) 0x12),
    ([0x2F, 0x04, 0x02], .senv .none 2)] : List (List Byte × Instr)), decode .at94 c.1 = .ok (c.2, []) := by decide

/-- SYS_MVNFU_AT exchanges the codes of MVNFU and MVNTU (R177). -/
theorem test_decode_mvnfu : decode .at94 [0x2F, 0x94] = .ok (.mvnfu .none, []) ∧ decode .atD4 [0x2F, 0x94] = .ok (.mvntu .none, []) ∧
    decode .atD4 [0x2F, 0xD4] = .ok (.mvnfu .none, []) := by decide

/-! ### What is ill-formed or refused -/

/-- A prefix bit that the row does not list is ill-formed (R165): RS, AM, OF, UM, LE and NF in turn, and a duplicate row
without AM (R174). -/
theorem test_illformed_prefix : ∀ i ∈ ([
    .clc (one .none .b16 false), .ldaImm (one .none .b8 true) 0, .nop (one .sp .b8 false), .ldaImm (two true .none false) 0,
    .clc (two false .zero false), .staZp (two false .none true) 0, .ldaQindZp (one .none .b8 false) 0] : List Instr),
    i.prefixOk = false ∧ i.wellFormed = false := by decide

/-- An operand that the operand bytes cannot hold is ill-formed (R166). -/
theorem test_illformed_operand : ∀ i ∈ ([
    .ldaImm .none 0x100, .ldaImm (one .none .b32 false) 0x100000000, .ldaAbs .none 0x10000, .trp .none 0x100, .sxy .none,
    .jmpAbs (one .none .b8 true) 0] : List Instr),
    (i.operandOk = false ↔ i.view.op ≠ 0) ∧ i.wellFormed = i.operandOk := by decide

/-- Refused encodings (spec/95 section 2.1; R153, R156, R165, R178). -/
theorem test_refused : ∀ c ∈ ([
    ([0x13, 0x23, 0xA9, 0x00], .misplacedPrefix 0x23), ([0x0B, 0x13, 0xA9, 0x00], .misplacedPrefix 0x13),
    ([0x0B, 0x0B, 0xA9, 0x12], .misplacedPrefix 0x0B), ([0x6F], .reservedPrefix 0x6F), ([0x8F], .reservedPrefix 0x8F),
    ([0xAF], .reservedPrefix 0xAF), ([0xCF], .reservedPrefix 0xCF), ([0xEF], .reservedPrefix 0xEF),
    ([0x54], .unusedCode 0 0x54), ([0x5C], .unusedCode 0 0x5C), ([0xD4], .unusedCode 0 0xD4), ([0x2F, 0x02], .unusedCode 0x2F 0x02),
    ([0x13, 0x18], .inapplicablePrefix), ([0x4B, 0x18], .inapplicablePrefix), ([0x1B, 0x85, 0x10], .inapplicablePrefix),
    ([0x07, 0xA9, 0x12], .inapplicablePrefix), ([0x13, 0xF4, 0x03], .inapplicablePrefix), ([0xCB, 0xA9, 0x12], .inapplicablePrefix),
    ([0x13, 0x4F, 0x06], .inapplicablePrefix), ([0xAD, 0x00], .truncated)] : List (List Byte × DecodeError)),
    decode .at94 c.1 = .error c.2 := by decide

/-! ### Single steps -/

/-- The refusals of the system registers and of decimal arithmetic (spec/95 sections 2.4 and 2.9). -/
theorem test_step_refusals : ∀ c ∈ ([
    ({ start with sr := { noFlags with d := true } }, [0x69, 0x01], .decimalArithmetic),
    ({ start with a := 0xFFFFFF80 }, [0x2F, 0x21, 0x20], .reservedRegisterBits 0x20),
    ({ start with a := 0xFFFFFF00 }, [0x2F, 0x21, 0x22], .reservedRegisterBits 0x22),
    (start, [0x2F, 0x21, 0x10], .readOnlyConfigRegister 0x10), (start, [0x2F, 0x01, 0x77], .undefinedConfigRegister 0x77),
    (start, [0x2F, 0x04, 0x09], .containerNumber 9), (start, [0x2F, 0x44], .mmuBaseUndefined),
    (start, [0x33, 0xA9, 1, 2, 3, 4, 5, 6, 7, 8], .widthTooLarge)] : List (State × List Byte × Refusal)),
    refusedWith c.1 c.2.1 c.2.2 = true := by decide

/-- Effective addresses (spec/95 section 2.2), each of an instruction at `$1000`. -/
theorem test_addressing : ∀ c ∈ ([
    ([0xA5, 0x20], 0x20), ([0xB5, 0x20], 0x24), ([0xB5, 0xFF], 0x103), ([0xB6, 0x20], 0x30), ([0xAD, 0x00, 0x30], 0x3000),
    ([0xBD, 0xFE, 0xFF], 0x10002), ([0xB9, 0x00, 0x30], 0x3010), ([0xB2, 0x20], 0x3000), ([0xB1, 0x20], 0x3010),
    ([0xA1, 0x20], 0x5678), ([0x62, 0x1C, 0x00], 0x3000), ([0x42, 0x20, 0x00], 0x3010), ([0x07, 0xB2, 0x20], 0x3000),
    ([0x07, 0xA1, 0x20], 0x12345678), ([0x07, 0xB1, 0x24], 0x12345688), ([0x07, 0xB7, 0x28], 0x89ABCDEF),
    ([0x07, 0xB3, 0x28], 0x89ABCDFF), ([0x07, 0xA3, 0x24], 0x89ABCDEF), ([0x07, 0xA5, 0x00, 0x30, 0x00, 0x00], 0x3000),
    ([0x07, 0xB5, 0x00, 0x00, 0x10, 0x00], 0x100004), ([0xC3, 0xB5, 0x12], 0x100016), ([0x83, 0xA5, 0x01], 0x1F1),
    ([0x43, 0xAD, 0x00, 0x01], 0x1104), ([0x0F, 0xA9], 0x4000)] : List (List Byte × Word)),
    (match decode .at94 c.1 with
      | .ok (i, _) => decide (address i addressed = .ok c.2)
      | .error _ => false) = true := by decide

/-- 1.4: 69 92 -/
theorem test_adcImm : runs { start with a := 0x12345680 } [0x69, 0x92]
    (fun t => t.pc == 0x1002 && t.a == 0x12345612 && t.sr.c && t.sr.v && !t.sr.n && !t.sr.z) = true := by decide

/-- 1.4: 2B 69 92 -/
theorem test_adcImm_2 : runs { start with a := 0x100 } [0x2B, 0x69, 0x92]
    (fun t => t.pc == 0x1003 && t.a == 0x92 && t.sr.c && !t.sr.v && !t.sr.n) = true := by decide

/-- 2.3: 0B A9 00 -/
theorem test_ldaImm : runs { start with a := 0xFFFFFFFF } [0x0B, 0xA9, 0x00]
    (fun t => t.pc == 0x1003 && t.a == 0xFFFFFF00 && t.sr.z) = true := by decide

/-- 2.3: 23 AD 00 20 -/
theorem test_ldaAbs : runs { start with mem := [(0x2000, 0x78), (0x2001, 0x56), (0x2002, 0x34), (0x2003, 0x92)] } [0x23, 0xAD, 0x00, 0x20]
    (fun t => t.pc == 0x1004 && t.a == 0x92345678 && t.sr.n) = true := by decide

/-- 2.3: 1B A9 80 -/
theorem test_ldaImm_2 : runs { start with a := 0x11111111, sr := { noFlags with n := false, z := true } } [0x1B, 0xA9, 0x80]
    (fun t => t.pc == 0x1003 && t.a == 0x11111180 && !t.sr.n && t.sr.z) = true := by decide

/-- 2.3: 2B A2 FE -/
theorem test_ldxImm : runs { start with x := 0x0 } [0x2B, 0xA2, 0xFE]
    (fun t => t.pc == 0x1003 && t.x == 0xFFFFFFFE && t.sr.n) = true := by decide

/-- 2.3: A0 00 -/
theorem test_ldyImm : runs { start with y := 0x55 } [0xA0, 0x00]
    (fun t => t.pc == 0x1002 && t.y == 0x0 && t.sr.z) = true := by decide

/-- 2.3: 13 8D 00 20 -/
theorem test_staAbs : runs { start with a := 0xAABBCCDD } [0x13, 0x8D, 0x00, 0x20]
    (fun t => t.pc == 0x1004 && t.mem.byteAt 0x2000 == 0xDD && t.mem.byteAt 0x2001 == 0xCC) = true := by decide

/-- 2.3: 86 10 -/
theorem test_stxZp : runs { start with x := 0x17F } [0x86, 0x10]
    (fun t => t.pc == 0x1002 && t.mem.byteAt 0x10 == 0x7F) = true := by decide

/-- 2.3: 9F 00 30 -/
theorem test_styAbsX : runs { start with y := 0x1, x := 0x2 } [0x9F, 0x00, 0x30]
    (fun t => t.pc == 0x1003 && t.mem.byteAt 0x3002 == 0x1) = true := by decide

/-- 2.3: 13 9C 00 40 -/
theorem test_stzAbs : runs start [0x13, 0x9C, 0x00, 0x40]
    (fun t => t.pc == 0x1004 && t.mem.byteAt 0x4000 == 0x0 && t.mem.byteAt 0x4001 == 0x0) = true := by decide

/-- 2.3: AA -/
theorem test_tax : runs { start with a := 0x12345680 } [0xAA]
    (fun t => t.pc == 0x1001 && t.x == 0x80 && t.sr.n) = true := by decide

/-- 2.3: 13 2B A8 -/
theorem test_tay : runs { start with a := 0x18000 } [0x13, 0x2B, 0xA8]
    (fun t => t.pc == 0x1003 && t.y == 0xFFFF8000 && t.sr.n) = true := by decide

/-- 2.3: 98 -/
theorem test_tya : runs { start with y := 0x1FF, a := 0xAAAAAAAA } [0x98]
    (fun t => t.pc == 0x1001 && t.a == 0xFF && t.sr.n) = true := by decide

/-- 2.3: BA -/
theorem test_tsx : runs { start with sph := 0x1F0 } [0xBA]
    (fun t => t.pc == 0x1001 && t.x == 0xF0 && t.sr.n) = true := by decide

/-- 2.3: 9A -/
theorem test_txs : runs { start with x := 0x1FF, sph := 0x1234 } [0x9A]
    (fun t => t.pc == 0x1001 && t.sph == 0xFF) = true := by decide

/-- 2.3: 23 CB 9A -/
theorem test_txs_2 : runs { start with x := 0x1FF } [0x23, 0xCB, 0x9A]
    (fun t => t.pc == 0x1003 && t.spu == 0x1FF) = true := by decide

/-- 2.3: 13 48 -/
theorem test_pha : runs { start with a := 0x1234, sph := 0x1FF } [0x13, 0x48]
    (fun t => t.pc == 0x1002 && t.sph == 0x1FD && t.mem.byteAt 0x1FF == 0x12 && t.mem.byteAt 0x1FE == 0x34) = true := by decide

/-- 2.3: 68 -/
theorem test_pla : runs { start with sph := 0x1FE, a := 0xFFFFFFFF, mem := [] } [0x68]
    (fun t => t.pc == 0x1001 && t.a == 0x0 && t.sr.z && t.sph == 0x1FF) = true := by decide

/-- 2.3: DA -/
theorem test_phx : runs { start with x := 0x7, sph := 0x1F0 } [0xDA]
    (fun t => t.pc == 0x1001 && t.sph == 0x1EF && t.mem.byteAt 0x1F0 == 0x7) = true := by decide

/-- 2.3: 5A -/
theorem test_phy : runs { start with y := 0x9, sph := 0x1F0 } [0x5A]
    (fun t => t.pc == 0x1001 && t.sph == 0x1EF && t.mem.byteAt 0x1F0 == 0x9) = true := by decide

/-- 2.3: 08 -/
theorem test_php : runs { start with sph := 0x1FF, sr := { noFlags with n := true, c := true } } [0x08]
    (fun t => t.pc == 0x1001 && t.sph == 0x1FE && t.mem.byteAt 0x1FF == 0xB1) = true := by decide

/-- 2.3: 28 -/
theorem test_plp : runs { start with sph := 0x1FE, mem := [(0x1FF, 0xC3)] } [0x28]
    (fun t => t.pc == 0x1001 && t.sph == 0x1FF && t.sr.n && t.sr.v && !t.sr.d && !t.sr.i && t.sr.z && t.sr.c) = true := by decide

/-- 2.4: 2B 09 80 -/
theorem test_oraImm : runs { start with a := 0x1 } [0x2B, 0x09, 0x80]
    (fun t => t.pc == 0x1003 && t.a == 0xFFFFFF81 && t.sr.n) = true := by decide

/-- 2.4: 29 0F -/
theorem test_andImm : runs { start with a := 0x123456F8 } [0x29, 0x0F]
    (fun t => t.pc == 0x1002 && t.a == 0x12345608 && !t.sr.n && !t.sr.z) = true := by decide

/-- 2.4: 6B 29 0F -/
theorem test_andImm_2 : runs { start with a := 0x123456F8 } [0x6B, 0x29, 0x0F]
    (fun t => t.pc == 0x1003 && t.a == 0x12345608) = true := by decide

/-- 2.4: 49 FF -/
theorem test_eorImm : runs { start with a := 0x123456F0 } [0x49, 0xFF]
    (fun t => t.pc == 0x1002 && t.a == 0x1234560F && !t.sr.n) = true := by decide

/-- 2.4: E9 00 -/
theorem test_sbcImm : runs { start with a := 0x0, sr := { noFlags with c := false } } [0xE9, 0x00]
    (fun t => t.pc == 0x1002 && t.a == 0xFF && t.sr.n && !t.sr.c) = true := by decide

/-- 2.4: 13 E9 01 00 -/
theorem test_sbcImm_2 : runs { start with a := 0x10000, sr := { noFlags with c := true } } [0x13, 0xE9, 0x01, 0x00]
    (fun t => t.pc == 0x1004 && t.a == 0x1FFFF && !t.sr.c && t.sr.n) = true := by decide

/-- 2.4: C9 40 -/
theorem test_cmpImm : runs { start with a := 0x12345640 } [0xC9, 0x40]
    (fun t => t.pc == 0x1002 && t.sr.z && t.sr.c && !t.sr.n) = true := by decide

/-- 2.4: 4B C9 80 -/
theorem test_cmpImm_2 : runs { start with a := 0xFFFFFF80 } [0x4B, 0xC9, 0x80]
    (fun t => t.pc == 0x1003 && t.sr.n && !t.sr.z && t.sr.c) = true := by decide

/-- 2.4: 23 E0 10 00 00 00 -/
theorem test_cpxImm : runs { start with x := 0x110 } [0x23, 0xE0, 0x10, 0x00, 0x00, 0x00]
    (fun t => t.pc == 0x1006 && !t.sr.z && t.sr.c && !t.sr.n) = true := by decide

/-- 2.4: C0 01 -/
theorem test_cpyImm : runs { start with y := 0x0 } [0xC0, 0x01]
    (fun t => t.pc == 0x1002 && !t.sr.c && t.sr.n && !t.sr.z) = true := by decide

/-- 2.4: 24 10 -/
theorem test_bitZp : runs { start with a := 0x1, mem := [(0x10, 0xC0)] } [0x24, 0x10]
    (fun t => t.pc == 0x1002 && t.sr.z && t.sr.n && t.sr.v) = true := by decide

/-- 2.4: 89 01 -/
theorem test_bitImm : runs { start with a := 0x1, sr := { noFlags with n := true, v := true } } [0x89, 0x01]
    (fun t => t.pc == 0x1002 && !t.sr.z) = true := by decide

/-- 2.4: E6 20 -/
theorem test_incZp : runs { start with mem := [(0x20, 0xFF)] } [0xE6, 0x20]
    (fun t => t.pc == 0x1002 && t.sr.z && !t.sr.n && t.mem.byteAt 0x20 == 0x0) = true := by decide

/-- 2.4: C6 20 -/
theorem test_decZp : runs { start with mem := [] } [0xC6, 0x20]
    (fun t => t.pc == 0x1002 && t.sr.n && t.mem.byteAt 0x20 == 0xFF) = true := by decide

/-- 2.4: 1A -/
theorem test_incA : runs { start with a := 0xFF } [0x1A]
    (fun t => t.pc == 0x1001 && t.a == 0x0 && t.sr.z) = true := by decide

/-- 2.4: 3A -/
theorem test_decA : runs { start with a := 0x100 } [0x3A]
    (fun t => t.pc == 0x1001 && t.a == 0x1FF && t.sr.n) = true := by decide

/-- 2.4: E8 -/
theorem test_inx : runs { start with x := 0x1FF } [0xE8]
    (fun t => t.pc == 0x1001 && t.x == 0x100 && t.sr.z) = true := by decide

/-- 2.4: CA -/
theorem test_dex : runs { start with x := 0x100 } [0xCA]
    (fun t => t.pc == 0x1001 && t.x == 0x1FF && t.sr.n) = true := by decide

/-- 2.4: C8 -/
theorem test_iny : runs { start with y := 0xFF } [0xC8]
    (fun t => t.pc == 0x1001 && t.y == 0x0 && t.sr.z) = true := by decide

/-- 2.4: 88 -/
theorem test_dey : runs { start with y := 0x0 } [0x88]
    (fun t => t.pc == 0x1001 && t.y == 0xFF && t.sr.n) = true := by decide

/-- 2.4: 13 0A -/
theorem test_aslA : runs { start with a := 0x1234C000 } [0x13, 0x0A]
    (fun t => t.pc == 0x1002 && t.a == 0x12348000 && t.sr.c && t.sr.n) = true := by decide

/-- 2.4: 4A -/
theorem test_lsrA : runs { start with a := 0x181, sr := { noFlags with c := false } } [0x4A]
    (fun t => t.pc == 0x1001 && t.a == 0x140 && t.sr.c && !t.sr.n) = true := by decide

/-- 2.4: 23 2A -/
theorem test_rolA : runs { start with a := 0x80000000, sr := { noFlags with c := true } } [0x23, 0x2A]
    (fun t => t.pc == 0x1002 && t.a == 0x1 && t.sr.c) = true := by decide

/-- 2.4: 23 6A -/
theorem test_rorA : runs { start with a := 0x1, sr := { noFlags with c := true } } [0x23, 0x6A]
    (fun t => t.pc == 0x1002 && t.a == 0x80000000 && t.sr.c && t.sr.n) = true := by decide

/-- 2.4: 23 0E 00 20 -/
theorem test_aslAbs : runs { start with mem := [(0x2003, 0x80)] } [0x23, 0x0E, 0x00, 0x20]
    (fun t => t.pc == 0x1004 && t.sr.z && t.sr.c && t.mem.byteAt 0x2003 == 0x0) = true := by decide

/-- 2.4: 14 10 -/
theorem test_trbZp : runs { start with a := 0x3, mem := [(0x10, 0x5)] } [0x14, 0x10]
    (fun t => t.pc == 0x1002 && !t.sr.z && t.mem.byteAt 0x10 == 0x4) = true := by decide

/-- 2.4: 04 10 -/
theorem test_tsbZp : runs { start with a := 0x2, mem := [(0x10, 0x5)] } [0x04, 0x10]
    (fun t => t.pc == 0x1002 && t.sr.z && t.mem.byteAt 0x10 == 0x7) = true := by decide

/-- 2.5: 50 10 -/
theorem test_bvc : runs { start with sph := 0x1FF, sr := { noFlags with v := true } } [0x50, 0x10]
    (fun t => t.pc == 0x1002) = true := by decide

/-- 2.5: 90 80 -/
theorem test_bcc : runs { start with sph := 0x1FF, sr := { noFlags with c := false } } [0x90, 0x80]
    (fun t => t.pc == 0xF82) = true := by decide

/-- 2.5: 13 B0 00 01 -/
theorem test_bcs : runs { start with sph := 0x1FF, sr := { noFlags with c := true } } [0x13, 0xB0, 0x00, 0x01]
    (fun t => t.pc == 0x1104) = true := by decide

/-- 2.5: F0 7F -/
theorem test_beq : runs { start with sph := 0x1FF, sr := { noFlags with z := true } } [0xF0, 0x7F]
    (fun t => t.pc == 0x1081) = true := by decide

/-- 2.5: 13 D0 00 F0 -/
theorem test_bne : runs { start with sph := 0x1FF, sr := { noFlags with z := false } } [0x13, 0xD0, 0x00, 0xF0]
    (fun t => t.pc == 0x4) = true := by decide

/-- 2.5: 10 FD -/
theorem test_bpl : runs { start with pc := 0x0 } [0x10, 0xFD]
    (fun t => t.pc == 0xFFFFFFFF) = true := by decide

/-- 2.5: 4C 00 30 -/
theorem test_jmpAbs : runs { start with sph := 0x1FF } [0x4C, 0x00, 0x30]
    (fun t => t.pc == 0x3000) = true := by decide

/-- 2.5: 6C FF 30 -/
theorem test_jmpIndAbs : runs { start with sph := 0x1FF, mem := [(0x30FF, 0x34), (0x3100, 0x12)] } [0x6C, 0xFF, 0x30]
    (fun t => t.pc == 0x1234) = true := by decide

/-- 2.5: 7C 00 30 -/
theorem test_jmpIndAbsX : runs { start with x := 0x2, sph := 0x1FF, mem := [(0x3003, 0x80)] } [0x7C, 0x00, 0x30]
    (fun t => t.pc == 0x8000) = true := by decide

/-- 2.5: 07 4C 00 00 01 00 00 00 00 00 -/
theorem test_jmpAbs_2 : runs start [0x07, 0x4C, 0x00, 0x00, 0x01, 0x00, 0x00, 0x00, 0x00, 0x00]
    (fun t => t.pc == 0x10000) = true := by decide

/-- 2.5: 20 00 20 -/
theorem test_jsrAbs : runs { start with sph := 0x1FF } [0x20, 0x00, 0x20]
    (fun t => t.pc == 0x2000 && t.sph == 0x1FD && t.mem.byteAt 0x1FF == 0x10 && t.mem.byteAt 0x1FE == 0x2) = true := by decide

/-- 2.5: 23 20 00 30 -/
theorem test_jsrAbs_2 : runs { start with pc := 0x12000, sph := 0x1FF } [0x23, 0x20, 0x00, 0x30]
    (fun t => t.pc == 0x3000 && t.sph == 0x1FB && t.mem.byteAt 0x1FC == 0x3 && t.mem.byteAt 0x1FD == 0x20 && t.mem.byteAt 0x1FE == 0x1 && t.mem.byteAt 0x1FF == 0x0) = true := by decide

/-- 2.5: 82 10 -/
theorem test_bsrRel : runs { start with sph := 0x1FF } [0x82, 0x10]
    (fun t => t.pc == 0x1012 && t.sph == 0x1FD && t.mem.byteAt 0x1FF == 0x10 && t.mem.byteAt 0x1FE == 0x1) = true := by decide

/-- 2.5: 44 00 01 -/
theorem test_bsrRelWide : runs { start with sph := 0x1FF } [0x44, 0x00, 0x01]
    (fun t => t.pc == 0x1103 && t.sph == 0x1FD && t.mem.byteAt 0x1FF == 0x10 && t.mem.byteAt 0x1FE == 0x2) = true := by decide

/-- 2.5: 0F 20 -/
theorem test_jsrE : runs { start with sph := 0x1FF, e := 0x4000 } [0x0F, 0x20]
    (fun t => t.pc == 0x4000 && t.sph == 0x1FD && t.mem.byteAt 0x1FF == 0x10 && t.mem.byteAt 0x1FE == 0x1) = true := by decide

/-- 2.5: 60 -/
theorem test_rts : runs { start with sph := 0x1FD, mem := [(0x1FE, 0xFF), (0x1FF, 0xFF)] } [0x60]
    (fun t => t.pc == 0x0 && t.sph == 0x1FF) = true := by decide

/-- 2.5: 23 60 -/
theorem test_rts_2 : runs { start with sph := 0x1FB, mem := [(0x1FC, 0x3), (0x1FD, 0x20), (0x1FE, 0x1)] } [0x23, 0x60]
    (fun t => t.pc == 0x12004 && t.sph == 0x1FF) = true := by decide

/-- 2.6: 4F 20 -/
theorem test_inyQuick : runs { start with y := 0xFE, e := 0x4000 } [0x4F, 0x20]
    (fun t => t.pc == 0x1002 && t.y == 0x1 && !t.sr.n && !t.sr.z) = true := by decide

/-- 2.6: 4F F1 -/
theorem test_dexQuick : runs { start with x := 0x5, e := 0x4000 } [0x4F, 0xF1]
    (fun t => t.pc == 0x1002 && t.x == 0xFD && t.sr.n) = true := by decide

/-- 2.6: 13 4F 71 -/
theorem test_inxQuick : runs { start with x := 0xFC, e := 0x4000 } [0x13, 0x4F, 0x71]
    (fun t => t.pc == 0x1003 && t.x == 0x104) = true := by decide

/-- 2.6: 4F 13 -/
theorem test_rolQuick : runs { start with a := 0x81, e := 0x4000, sr := { noFlags with c := false } } [0x4F, 0x13]
    (fun t => t.pc == 0x1002 && t.a == 0x5 && !t.sr.c) = true := by decide

/-- 2.6: 4F F3 -/
theorem test_rorQuick : runs { start with a := 0x1, e := 0x4000, sr := { noFlags with c := true } } [0x4F, 0xF3]
    (fun t => t.pc == 0x1002 && t.a == 0x3 && !t.sr.c) = true := by decide

/-- 2.6: 4F 34 -/
theorem test_aslQuick : runs { start with a := 0x13, e := 0x4000 } [0x4F, 0x34]
    (fun t => t.pc == 0x1002 && t.a == 0x30 && t.sr.c) = true := by decide

/-- 2.6: 4F B4 -/
theorem test_lsrQuick : runs { start with a := 0xF8, e := 0x4000 } [0x4F, 0xB4]
    (fun t => t.pc == 0x1002 && t.a == 0xF && t.sr.c) = true := by decide

/-- 2.6: 23 4F 75 -/
theorem test_rdlQuick : runs { start with a := 0x12345678, e := 0x4000 } [0x23, 0x4F, 0x75]
    (fun t => t.pc == 0x1003 && t.a == 0x34567812 && !t.sr.c) = true := by decide

/-- 2.6: 4F 85 -/
theorem test_rdrQuick : runs { start with a := 0x1, e := 0x4000 } [0x4F, 0x85]
    (fun t => t.pc == 0x1002 && t.a == 0x80 && t.sr.c) = true := by decide

/-- 2.6: 4F 7C -/
theorem test_asrQuick : runs { start with a := 0x80, e := 0x4000 } [0x4F, 0x7C]
    (fun t => t.pc == 0x1002 && t.a == 0xFF && t.sr.c && t.sr.n) = true := by decide

/-- 2.6: 4F 1A -/
theorem test_slxQuick : runs { start with x := 0x3, e := 0x4000 } [0x4F, 0x1A]
    (fun t => t.pc == 0x1002 && t.x == 0xC) = true := by decide

/-- 2.6: 4F 9A -/
theorem test_srxQuick : runs { start with x := 0xD, e := 0x4000 } [0x4F, 0x9A]
    (fun t => t.pc == 0x1002 && t.x == 0x3 && !t.sr.c) = true := by decide

/-- 2.6: 4F 0B -/
theorem test_slyQuick : runs { start with y := 0x81, e := 0x4000 } [0x4F, 0x0B]
    (fun t => t.pc == 0x1002 && t.y == 0x2 && t.sr.c) = true := by decide

/-- 2.6: 4F BB -/
theorem test_sryQuick : runs { start with y := 0x10, e := 0x4000 } [0x4F, 0xBB]
    (fun t => t.pc == 0x1002 && t.y == 0x1 && !t.sr.c) = true := by decide

/-- 2.6: 4F C6 -/
theorem test_decQuickE : runs { start with e := 0x4000, mem := [(0x4000, 0x5)] } [0x4F, 0xC6]
    (fun t => t.pc == 0x1002 && t.sr.z && t.mem.byteAt 0x4000 == 0x0) = true := by decide

/-- 2.6: 4F 87 -/
theorem test_rorQuickE : runs { start with e := 0x4000, sr := { noFlags with c := true }, mem := [(0x4000, 0x2)] } [0x4F, 0x87]
    (fun t => t.pc == 0x1002 && !t.sr.c && t.mem.byteAt 0x4000 == 0x81) = true := by decide

/-- 2.6: 4F 18 -/
theorem test_rdlQuickE : runs { start with e := 0x4000, mem := [(0x4000, 0xC0)] } [0x4F, 0x18]
    (fun t => t.pc == 0x1002 && t.sr.c && t.mem.byteAt 0x4000 == 0x3) = true := by decide

/-- 2.6: 4F F9 -/
theorem test_lsrQuickE : runs { start with e := 0x4000, mem := [(0x4000, 0x80)] } [0x4F, 0xF9]
    (fun t => t.pc == 0x1002 && t.sr.c && t.mem.byteAt 0x4000 == 0x0) = true := by decide

/-- 2.6: 4F 2D 10 -/
theorem test_incQuickZp : runs { start with e := 0x4000, mem := [(0x10, 0x7)] } [0x4F, 0x2D, 0x10]
    (fun t => t.pc == 0x1003 && t.mem.byteAt 0x10 == 0xA) = true := by decide

/-- 2.6: 4F AF 10 -/
theorem test_lsrQuickZp : runs { start with e := 0x4000, mem := [(0x10, 0x14)] } [0x4F, 0xAF, 0x10]
    (fun t => t.pc == 0x1003 && t.sr.c && t.mem.byteAt 0x10 == 0x2) = true := by decide

/-- 2.7: 23 0F A9 -/
theorem test_ldaE : runs { start with e := 0x4000, mem := [(0x4000, 0x78), (0x4001, 0x56), (0x4002, 0x34), (0x4003, 0x92)] } [0x23, 0x0F, 0xA9]
    (fun t => t.pc == 0x1003 && t.a == 0x92345678 && t.sr.n) = true := by decide

/-- 2.7: 13 0F 9C -/
theorem test_stzE : runs { start with e := 0x4000 } [0x13, 0x0F, 0x9C]
    (fun t => t.pc == 0x1003 && t.mem.byteAt 0x4000 == 0x0 && t.mem.byteAt 0x4001 == 0x0) = true := by decide

/-- 2.7: 0F 9E 00 20 -/
theorem test_stzAbsY : runs { start with y := 0x3, e := 0x4000 } [0x0F, 0x9E, 0x00, 0x20]
    (fun t => t.pc == 0x1004 && t.mem.byteAt 0x2003 == 0x0) = true := by decide

/-- 2.7: 0F 69 -/
theorem test_adcE : runs { start with a := 0x1, e := 0x4000, sr := { noFlags with c := true }, mem := [(0x4000, 0x1)] } [0x0F, 0x69]
    (fun t => t.pc == 0x1002 && t.a == 0x3 && !t.sr.c) = true := by decide

/-- 2.7: 0F C9 -/
theorem test_cmpE : runs { start with a := 0x10, e := 0x4000, mem := [(0x4000, 0x10)] } [0x0F, 0xC9]
    (fun t => t.pc == 0x1002 && t.sr.z && t.sr.c) = true := by decide

/-- 2.7: 0F 89 -/
theorem test_bitE : runs { start with a := 0xFF, e := 0x4000, mem := [(0x4000, 0x40)] } [0x0F, 0x89]
    (fun t => t.pc == 0x1002 && t.sr.v && !t.sr.n && !t.sr.z) = true := by decide

/-- 2.7: 0F 0C -/
theorem test_tsbE : runs { start with a := 0x1, e := 0x4000, mem := [] } [0x0F, 0x0C]
    (fun t => t.pc == 0x1002 && t.sr.z && t.mem.byteAt 0x4000 == 0x1) = true := by decide

/-- 2.7: 0F 2D -/
theorem test_rolE : runs { start with e := 0x4000, sr := { noFlags with c := true }, mem := [(0x4000, 0x1)] } [0x0F, 0x2D]
    (fun t => t.pc == 0x1002 && !t.sr.c && t.mem.byteAt 0x4000 == 0x3) = true := by decide

/-- 2.7: 0F ED -/
theorem test_incE : runs { start with e := 0x4000, mem := [(0x4000, 0x7F)] } [0x0F, 0xED]
    (fun t => t.pc == 0x1002 && t.sr.n && t.mem.byteAt 0x4000 == 0x80) = true := by decide

/-- 2.7: 0F 06 10 -/
theorem test_asrZp : runs { start with e := 0x4000, mem := [(0x10, 0x82)] } [0x0F, 0x06, 0x10]
    (fun t => t.pc == 0x1003 && !t.sr.c && t.sr.n && t.mem.byteAt 0x10 == 0xC1) = true := by decide

/-- 2.7: 0F 2A -/
theorem test_rdlA : runs { start with a := 0x81, e := 0x4000 } [0x0F, 0x2A]
    (fun t => t.pc == 0x1002 && t.a == 0x3 && t.sr.c) = true := by decide

/-- 2.7: 0F BE 00 20 -/
theorem test_leaAbsX : runs { start with x := 0x4, e := 0x4000 } [0x0F, 0xBE, 0x00, 0x20]
    (fun t => t.pc == 0x1004 && t.e == 0x2004 && !t.sr.n && !t.sr.z) = true := by decide

/-- 2.7: 0F 80 F0 -/
theorem test_leaRel : runs { start with e := 0x4000 } [0x0F, 0x80, 0xF0]
    (fun t => t.pc == 0x1003 && t.e == 0xFF3) = true := by decide

/-- 2.7: 0F B1 20 -/
theorem test_leaIndZpY : runs { start with y := 0x10, e := 0x4000, mem := [(0x21, 0x30)] } [0x0F, 0xB1, 0x20]
    (fun t => t.pc == 0x1003 && t.e == 0x3010) = true := by decide

/-- 2.7: 0F AD 34 12 -/
theorem test_peaAbs : runs { start with sph := 0x1FF, e := 0x4000 } [0x0F, 0xAD, 0x34, 0x12]
    (fun t => t.pc == 0x1004 && t.sph == 0x1FB && t.mem.byteAt 0x1FC == 0x34 && t.mem.byteAt 0x1FD == 0x12 && t.mem.byteAt 0x1FE == 0x0 && t.mem.byteAt 0x1FF == 0x0) = true := by decide

/-- 2.8: 4B 0F 25 01 -/
theorem test_adeImm : runs { start with e := 0x10FF } [0x4B, 0x0F, 0x25, 0x01]
    (fun t => t.pc == 0x1004 && t.e == 0x1100 && !t.sr.c && !t.sr.z) = true := by decide

/-- 2.8: 13 0F 35 -/
theorem test_adeA : runs { start with e := 0x1000, a := 0x234 } [0x13, 0x0F, 0x35]
    (fun t => t.pc == 0x1003 && t.e == 0x1234) = true := by decide

/-- 2.8: 0F 45 04 -/
theorem test_adsImm : runs { start with sph := 0x1F0 } [0x0F, 0x45, 0x04]
    (fun t => t.pc == 0x1003 && t.sph == 0x1F4) = true := by decide

/-- 2.8: 0F 55 -/
theorem test_adsA : runs { start with sph := 0x1F0, a := 0x8 } [0x0F, 0x55]
    (fun t => t.pc == 0x1002 && t.sph == 0x1F8) = true := by decide

/-- 2.8: 23 0F 65 00 00 01 00 -/
theorem test_adbImm : runs { start with b := 0x100000 } [0x23, 0x0F, 0x65, 0x00, 0x00, 0x01, 0x00]
    (fun t => t.pc == 0x1007 && t.b == 0x110000) = true := by decide

/-- 2.8: 4B 0F A5 01 -/
theorem test_sbeImm : runs { start with e := 0x1000 } [0x4B, 0x0F, 0xA5, 0x01]
    (fun t => t.pc == 0x1004 && t.e == 0xFFF && t.sr.c && !t.sr.n) = true := by decide

/-- 2.8: 0F F5 -/
theorem test_sbbA : runs { start with b := 0x30, a := 0x30 } [0x0F, 0xF5]
    (fun t => t.pc == 0x1002 && t.b == 0x0 && t.sr.z && t.sr.c) = true := by decide

/-- 2.8: 13 0F 39 00 C0 -/
theorem test_ldeImm : runs start [0x13, 0x0F, 0x39, 0x00, 0xC0]
    (fun t => t.pc == 0x1005 && t.e == 0xC000 && t.sr.n) = true := by decide

/-- 2.8: 23 0F 59 00 00 10 00 -/
theorem test_ldbImm : runs start [0x23, 0x0F, 0x59, 0x00, 0x00, 0x10, 0x00]
    (fun t => t.pc == 0x1007 && t.b == 0x100000) = true := by decide

/-- 2.8: 0F 08 -/
theorem test_phe : runs { start with e := 0x12345678, sph := 0x1FF } [0x0F, 0x08]
    (fun t => t.pc == 0x1002 && t.sph == 0x1FB && t.mem.byteAt 0x1FC == 0x78 && t.mem.byteAt 0x1FD == 0x56 && t.mem.byteAt 0x1FE == 0x34 && t.mem.byteAt 0x1FF == 0x12) = true := by decide

/-- 2.8: 0F 58 -/
theorem test_prb : runs { start with cfg := cfg16, b := 0xC000, a := 0x8000, sph := 0x1FF } [0x0F, 0x58]
    (fun t => t.pc == 0x1002 && t.sph == 0x1FD && t.b == 0x8000 && t.sr.n && t.mem.byteAt 0x1FF == 0xC0 && t.mem.byteAt 0x1FE == 0x0) = true := by decide

/-- 2.8: 0F C8 -/
theorem test_tpa : runs { start with pc := 0x2000 } [0x0F, 0xC8]
    (fun t => t.pc == 0x2002 && t.a == 0x2002) = true := by decide

/-- 2.8: 23 0F CA -/
theorem test_tsy : runs { start with sph := 0x1F0 } [0x23, 0x0F, 0xCA]
    (fun t => t.pc == 0x1003 && t.y == 0x1F0) = true := by decide

/-- 2.8: 23 0F 8A -/
theorem test_tys : runs { start with y := 0x1FF } [0x23, 0x0F, 0x8A]
    (fun t => t.pc == 0x1003 && t.sph == 0x1FF) = true := by decide

/-- 2.8: 0F 9A -/
theorem test_sxy : runs { start with x := 0x1, y := 0x2 } [0x0F, 0x9A]
    (fun t => t.pc == 0x1002 && t.x == 0x2 && t.y == 0x1) = true := by decide

/-- 2.8: 0F 34 -/
theorem test_bitA : runs { start with a := 0x80 } [0x0F, 0x34]
    (fun t => t.pc == 0x1002 && t.sr.n && !t.sr.v && !t.sr.z) = true := by decide

/-- 2.8: 2B 0F A4 -/
theorem test_invA : runs { start with a := 0x1 } [0x2B, 0x0F, 0xA4]
    (fun t => t.pc == 0x1003 && t.a == 0xFFFFFFFF) = true := by decide

/-- 2.8: 2B 0F C4 -/
theorem test_extA : runs { start with a := 0x12345680 } [0x2B, 0x0F, 0xC4]
    (fun t => t.pc == 0x1003 && t.a == 0xFFFFFF80 && t.sr.n) = true := by decide

/-- 2.8: 13 4B 0F C4 -/
theorem test_extA_2 : runs { start with a := 0x12345680 } [0x13, 0x4B, 0x0F, 0xC4]
    (fun t => t.pc == 0x1004 && t.a == 0x5680 && !t.sr.n) = true := by decide

/-- 2.8: 13 0F D4 -/
theorem test_swpA : runs { start with a := 0x1234 } [0x13, 0x0F, 0xD4]
    (fun t => t.pc == 0x1003 && t.a == 0x3412) = true := by decide

/-- 2.8: 0F B4 -/
theorem test_bcnA : runs { start with a := 0x0 } [0x0F, 0xB4]
    (fun t => t.pc == 0x1002 && t.a == 0x0 && t.sr.z) = true := by decide

/-- 2.8: 13 0F BC -/
theorem test_bcnE : runs { start with e := 0x4000, mem := [(0x4000, 0xFF), (0x4001, 0x1)] } [0x13, 0x0F, 0xBC]
    (fun t => t.pc == 0x1003 && t.a == 0x9) = true := by decide

/-- 2.9: 2F 01 00 -/
theorem test_lcr : runs start [0x2F, 0x01, 0x00]
    (fun t => t.pc == 0x1003 && t.a == 0xAF && !t.sr.n && !t.sr.z) = true := by decide

/-- 2.9: 2F 01 10 -/
theorem test_lcr_2 : runs { start with sr := { noFlags with i := true } } [0x2F, 0x01, 0x10]
    (fun t => t.pc == 0x1003 && t.a == 0xD04) = true := by decide

/-- 2.9: 2F 21 11 -/
theorem test_scr : runs { start with a := 0x3 } [0x2F, 0x21, 0x11]
    (fun t => t.pc == 0x1003 && t.imr == 0x3) = true := by decide

/-- 2.9: 2F 6C FC FF -/
theorem test_jpuIndAbs : runs { start with mem := [(0xFFFD, 0xC0)] } [0x2F, 0x6C, 0xFC, 0xFF]
    (fun t => t.pc == 0xC000 && !t.sr.h) = true := by decide

/-- 2.9: 2F 55 -/
theorem test_cleim : runs { start with eim := 0x1, imr := 0x7 } [0x2F, 0x55]
    (fun t => t.pc == 0x1002 && t.eim == 0x7) = true := by decide
/-- 2.4: the flag instructions and NOP. -/
theorem test_flag_instructions : ∀ c ∈ ([
    (0x18, { noFlags with c := true }, noFlags), (0x38, noFlags, { noFlags with c := true }),
    (0x58, { noFlags with i := true }, noFlags), (0x78, noFlags, { noFlags with i := true }),
    (0xB8, { noFlags with v := true }, noFlags), (0xD8, { noFlags with d := true }, noFlags),
    (0xF8, noFlags, { noFlags with d := true }), (0xEA, noFlags, noFlags)] : List (Byte × Status × Status)),
    runs { start with sr := c.2.1 } [c.1] (fun t => t.pc == 0x1001 && t.sr == c.2.2) = true := by decide

/-- 2.7: the barriers change nothing. -/
theorem test_barriers : ∀ b ∈ ([0x64, 0x74, 0xE4, 0xF4] : List Byte),
    runs start [0x0F, b] (fun t => t.pc == 0x1002 && t.a == 0 && t.sr == noFlags) = true := by decide

/-- 2.7: LLA reserves. -/
theorem test_llaE : runs { start with mem := [(0x4000, 1)] } [0x0F, 0x94]
    (fun t => t.a == 1 && !t.sr.n && !t.sr.z && t.link == some { env := .hyp, addr := 0x4000, nb := 1 }) = true := by decide

/-- 2.7: SCA stores under its own reservation. -/
theorem test_scaE : runs { start with a := 2, link := some { env := .hyp, addr := 0x4000, nb := 1 } } [0x0F, 0x84]
    (fun t => t.mem.byteAt 0x4000 == 2 && !t.sr.v && t.link == none) = true := by decide

/-- 2.7: SCA of another width stores nothing. -/
theorem test_scaE_2 : runs { start with a := 2, link := some { env := .hyp, addr := 0x4000, nb := 1 } } [0x13, 0x0F, 0x84]
    (fun t => t.mem.byteAt 0x4000 == 0 && t.sr.v && t.link == none) = true := by decide

/-- 2.7: the first step of MVN. -/
theorem test_mvn : runs { start with a := 2, x := 0x2001, y := 0x3001, mem := [(0x2000, 0xAA), (0x2001, 0xBB)] } [0x0F, 0x04]
    (fun t => t.pc == 0x1000 && t.a == 1 && t.x == 0x2000 && t.y == 0x3000 && holds t [(0x3001, 0xBB), (0x3000, 0)]) = true := by
  decide

/-- 2.7: the last step of MVP. -/
theorem test_mvp : runs { start with a := 1, x := 0x2001, y := 0x3001, mem := [(0x2001, 0xBB)] } [0x0F, 0x14]
    (fun t => t.pc == 0x1002 && t.a == 0 && t.x == 0x2002 && t.y == 0x3002 && t.mem.byteAt 0x3001 == 0xBB) = true := by decide

/-- 2.7: FIL.W. -/
theorem test_fil : runs { start with a := 2, x := 0x4000, y := 0xBEEF } [0x13, 0x0F, 0x24]
    (fun t => t.pc == 0x1000 && t.a == 1 && t.x == 0x4002 && holds t [(0x4000, 0xEF), (0x4001, 0xBE)]) = true := by decide

/-- 2.9: MVPTU writes in the user environment. -/
theorem test_mvptu : runs { user with sr := noFlags, a := 1, x := 0x2000, y := 0x400, mem := [(0x2000, 0x48)] } [0x2F, 0xF4]
    (fun t => t.a == 0 && t.x == 0x2001 && t.y == 0x401 && t.mem.byteAt 0x10400 == 0x48 && t.mem.byteAt 0x400 == 0) = true := by
  decide

/-- 2.9: FILU writes in the user environment. -/
theorem test_filu : runs { user with sr := noFlags, a := 4, x := 0x400, y := 0x20 } [0x2F, 0x74]
    (fun t => t.pc == 0x1000 && t.a == 3 && t.x == 0x401 && t.mem.byteAt 0x10400 == 0x20) = true := by decide

/-- 2.9: SCR of the interrupt base switches the vector table on. -/
theorem test_scr_2 : runs { start with a := 0xFFFFFF00 } [0x2F, 0x21, 0x20] (fun t => t.iv == 0xFFFFFF00 && t.ivAct && !t.avAct) = true := by
  decide

/-- 2.9: BCR of ISR with line 2 active. -/
theorem test_bcr : runs { start with a := 7, irqLine := 4 } [0x2F, 0x41, 0x12] (fun t => !t.sr.z && t.a == 7) = true := by decide

/-- 1.12: SENV 2 of the PET example. -/
theorem test_senv : runs { start with a := 0xFFFF80FF, x := 0x12, y := 0x10000041 } [0x2F, 0x04, 0x02]
    (fun t => t.cont[2]? == some { mask := 0xFFFF80FF, cmp := 0x12, off := 0x10000041 } && t.cont[1]? == some unset) = true := by decide

/-- 2.9: SENV (E) with `W = 16`. -/
theorem test_senvE : runs { start with
      cfg := cfg16, e := 0x300, mem := [(0x300, 0xFF), (0x301, 0xFF), (0x302, 0x12), (0x304, 1),
      (0x305, 0x10)] } [0x2F, 0x14, 0x00]
    (fun t => t.cont[0]? == some { mask := 0xFFFF, cmp := 0x12, off := 0x1001 }) = true := by decide

/-- 2.9: JPU. -/
theorem test_jpuAbs : runs start [0x2F, 0x4C, 0x00, 0x20] (fun t => t.pc == 0x2000 && !t.sr.h && t.sr.p && t.sr.sf == 1) = true := by decide

/-- 2.9: WAI. -/
theorem test_wai : runs start [0x2F, 0xD1] (fun t => t.run == .waiting && t.pc == 0x1002) = true := by decide

/-- 2.9: STP. -/
theorem test_stp : runs start [0x2F, 0xF1] (fun t => t.run == .stopped && t.actCore == 0) = true := by decide

/-! ### Reset, memory and exceptions -/

/-- 1.7: the reset vector. -/
theorem test_reset_vector : ∀ c ∈ ([
    (.w32, [(0xFFFFFFFD, 0xE0)], 0xFFFFE000), (.w32, [(0xFFFFFFFD, 0x12)], 0x1200), (.w16, [(0xFFFD, 0xE0)], 0xE000),
    (.w64, [(0xFFFFFFFFFFFFFFFD, 0x80)], 0xFFFFFFFFFFFF8000)] : List (Width × Memory × Word)),
    State.resetVector { State.reset with cfg := { Config.standard with width := c.1 }, mem := c.2.1 } = c.2.2 := by decide

/-- 1.12: translation through the containers of the PET example. -/
theorem test_translate_pet : ∀ c ∈ ([
    (0xE810, .read, .ok (some 0xE000E810)), (0x8010, .read, .ok (some 0xD0008010)), (0x1234, .write, .ok (some 0x10001234)),
    (0x9034, .read, .ok (some 0x10009034)), (0x9034, .write, .ok none), (0xE810, .fetch, .error .noexec),
    (0x12340, .read, .ok (some 0x12340))] : List (Word × Access × Except AbortKind (Option Word))),
    translate { user with cont := [{ mask := 0xFFFFFFFF, cmp := 0xE812, off := 0xE0000031 },
      { mask := 0xFFFFF0FF, cmp := 0x8012, off := 0xD0000071 }, { mask := 0xFFFF80FF, cmp := 0x12, off := 0x10000041 },
      { mask := 0xFFFF80FF, cmp := 0x8012, off := 0x10000045 }] } .user c.1 c.2.1 = c.2.2 := by decide

/-- 2.12: the control bits, one container at a time, and the key of each environment. -/
theorem test_translate : ∀ c ∈ ([
    (0x10001, .user, .read, .ok (some 0x11234)), (0x10001, .hyp, .read, .ok (some 0x1234)), (0x10000, .user, .read, .error .nomem),
    (0x10005, .user, .write, .ok none), (0x1000D, .user, .write, .error .wprot), (0x10011, .user, .fetch, .error .noexec),
    (0x10011, .user, .read, .ok (some 0x11234)), (0x10003, .user, .read, .error .privmem)] :
      List (Word × Env × Access × Except AbortKind (Option Word))),
    translate { user with cont := [unset, { mask := 0xFFFF00FF, cmp := 0x12, off := c.1 }] } c.2.1 0x1234 c.2.2.1 = c.2.2.2 := by
  decide

/-- 2.12: a store that aborts on its second byte leaves the first written and takes WPROT. -/
theorem test_partial_write : runs { user with
      a := 0x1234, avAct := true, av := 0xFFFFFF00, mem := [(0xFFFFFFF9, 0xE1)],
      cont := [{ mask := 0xFFFFFFFF, cmp := 0x2112, off := 0x5000D }] } [0x13, 0x8D, 0xFF, 0x20]
    (fun t => t.pc == 0xFFFFE100 && t.sr.h && holds t [(0x20FF, 0x34), (0x52100, 0), (0x1FF, 0x10), (0x1FE, 0), (0x1FD, 1), (0x1FC, 0)]) =
      true := by decide

/-- 2.10 (a): an interrupt through the vector table. -/
theorem test_interrupt_vectored : goesOn { start with
      pc := 0x1234, sr := { noFlags with z := true, c := true }, eim := 7,
      irqLine := 0x24, iv := 0xFFFFFF00, ivAct := true, mem := [(0xFFFFFF05, 0x80)] }
    (fun t => t.pc == 0xFFFF8000 && t.sph == 0x1FB && t.eim == 1 && t.sr == { noFlags with z := true, c := true } &&
      holds t [(0x1FF, 0x12), (0x1FE, 0x34), (0x1FD, 0x0D), (0x1FC, 0x03)]) = true := by decide

/-- 2.10 (a'): RTI from there. -/
theorem test_rti : runs { start with
      sph := 0x1FB, eim := 1, imr := 7,
      mem := [(0x1FC, 0x03), (0x1FD, 0x0D), (0x1FE, 0x34), (0x1FF, 0x12)] } [0x40]
    (fun t => t.pc == 0x1234 && t.sph == 0x1FF && t.eim == 7 && t.sr == { noFlags with z := true, c := true }) = true := by decide

/-- 2.10 (b): an address that needs four bytes. -/
theorem test_interrupt_long_frame : goesOn { start with pc := 0x12344, nmiPend := true, ivAct := true, iv := 0x20000 }
    (fun t => t.pc == 0x20000 && t.sph == 0x1F9 && t.sr.sf == 2 && !t.nmiPend &&
      holds t [(0x1FF, 0), (0x1FE, 1), (0x1FD, 0x23), (0x1FC, 0x44), (0x1FB, 0x0E), (0x1FA, 0)]) = true := by decide

/-- 2.10 (c): TRP from user mode. -/
theorem test_trp : runs { user with pc := 0x800, tmv := 0x10, tv := 0xFFFFFE00, tvAct := true, mem := [(0xFFFFFE07, 0x90)] } [0xF4, 0x03]
    (fun t => t.pc == 0xFFFF9000 && t.spu == 0x1FC && t.sr.h && !t.sr.p && holds t [(0x101FF, 0x08), (0x101FE, 0x01), (0x101FD, 0x01)]) =
      true := by decide

/-- 2.10 (c'): RTU from there. -/
theorem test_rtu : runs { user with sr := { noFlags with p := false }, spu := 0x1FC, mem := [(0x101FD, 0x01), (0x101FE, 0x01), (0x101FF, 0x08)] }
    [0x2F, 0x60] (fun t => t.pc == 0x802 && t.spu == 0x1FF && !t.sr.h && !t.sr.p) = true := by decide

/-- 2.10 (c''): a trap number that is not below TMV. -/
theorem test_trp_2 : runs { user with pc := 0x800, tmv := 0x10, av := 0xFFFFFF00, avAct := true, mem := [(0xFFFFFFF1, 0xE2)] } [0xF4, 0x10]
    (fun t => t.pc == 0xFFFFE200 && t.spu == 0x1FB && holds t [(0x101FF, 0x08), (0x101FE, 0x00), (0x101FD, 0x01), (0x101FC, 0)]) =
      true := by decide

/-- 2.10 (d): the 6502 compatible sequence with `W = 16`. -/
theorem test_interrupt_compatible : goesOn { start with
      cfg := cfg16, pc := 0x1234, sr := { noFlags with n := true, c := true },
      imr := 1, eim := 1, irqLine := 2, mem := [(0xFFFF, 0xE0)] }
    (fun t => t.pc == 0xE000 && t.sph == 0x1FC && t.sr.i && t.eim == 0 && holds t [(0x1FF, 0x12), (0x1FE, 0x34), (0x1FD, 0xA1)]) =
      true := by decide

/-- 2.10 (d'): RTI from there. -/
theorem test_rti_2 : runs { start with cfg := cfg16, sph := 0x1FC, imr := 1, mem := [(0x1FD, 0xA1), (0x1FE, 0x34), (0x1FF, 0x12)] } [0x40]
    (fun t => t.pc == 0x1234 && t.eim == 1 && t.sr == { noFlags with n := true, c := true }) = true := by decide

/-- 2.10 (e): a forged frame is a PRIVRTI abort. -/
theorem test_privrti : runs { user with
      spu := 0x1F0, av := 0xFFFFFF00, avAct := true,
      mem := [(0x101F2, 0x09), (0x101F3, 0x34), (0x101F4, 0x12), (0xFFFFFFF5, 0xE3)] } [0x40]
    (fun t => t.pc == 0xFFFFE300 && t.sr.h && !t.sr.p && t.spu == 0x1EC && holds t [(0x101F0, 0x10), (0x101EF, 0)]) = true := by decide

/-- 2.10 (f): BRK on a 16-bit machine. -/
theorem test_brk : runs { start with cfg := cfg16, pc := 0x300, sr := { noFlags with c := true, i := true }, mem := [(0xFFFE, 0x10)] } [0x00]
    (fun t => t.pc == 0x10 && t.sph == 0x1FC && t.sr.i && holds t [(0x1FF, 0x03), (0x1FE, 0x02), (0x1FD, 0x35)]) = true := by decide

/-- 2.10 (g): an interrupt that user mode takes itself. -/
theorem test_interrupt_user : goesOn { user with
      pc := 0x456, sr := { user.sr with z := true }, eim := 7, muUsel := 3, irqLine := 8,
      mem := [(0x1FFFF, 0xD0)] }
    (fun t => t.pc == 0xD000 && t.spu == 0x1FC && t.sr.i && !t.sr.h && t.eim == 7 &&
      holds t [(0x101FF, 0x04), (0x101FE, 0x56), (0x101FD, 0x22)]) = true := by decide

/-- P4: the SYS page in user mode is a PRIVOP abort. -/
theorem test_privop : runs { user with
      pc := 0x1005, sr := { user.sr with p := true, i := true }, av := 0xFFFFFF00, avAct := true,
      mem := [(0xFFFFFFF3, 0xE1)] } [0x2F, 0x01, 0x00]
    (fun t => t.pc == 0xFFFFE100 && t.spu == 0x1FB && t.sr.h && !t.sr.p && t.a == 0 &&
      holds t [(0x101FF, 0x10), (0x101FE, 0x05), (0x101FD, 0x05), (0x101FC, 0x04)]) = true := by decide


/-- Core 1 of two is stopped after a reset, with only core 0's bit set (R74, R740). -/
theorem test_reset_of_core_1 :
    let t := ({ start with cfg := { Config.standard with ncore := 2, myCore := 1 }, actCore := 3 } : State).applyReset
    t.run = .stopped ∧ t.actCore = 1 ∧ t.wellFormed = true := by decide

/-- Core 0 starts core 1 and stops it again (R53, R716, R745): the registers of a core are as after reset, the global ones stay;
a core that waits is not started by its bit, and its own number as writer changes nothing. -/
theorem test_core_started_and_stopped :
    let s := ({ start with a := 5, cfg := { Config.standard with ncore := 2, myCore := 1 }, imr := 5, mh := 7, nmiPend := true } : State).stopCore
    let t := s.actCoreWrite 0 0xFFFFFFFE
    (s.actCore = 1 ∧ s.run = .stopped ∧ s.wellFormed = true) ∧
    (t.run = .running ∧ t.actCore = 3 ∧ t.pc = 0 ∧ t.a = 0 ∧ t.mh = 0 ∧ t.imr = 5 ∧ t.mem = s.mem ∧ t.wellFormed = true) ∧
    (t.actCoreWrite 0 1).run = .stopped ∧ (t.actCoreWrite 0 1).actCore = 1 ∧
    ({ t with run := .waiting } : State).actCoreWrite 0 3 = { t with run := .waiting } ∧ s.actCoreWrite 1 3 = s := by decide

/-- A stopped core 0 is not started by core 1 (R637, R745), only by a reset; with one core nobody else writes. -/
theorem test_core_0_leaves_by_reset :
    let s := ({ start with cfg := { Config.standard with ncore := 2 }, actCore := 3 } : State).stopCore
    (s.actCore = 2 ∧ s.run = .stopped ∧ s.wellFormed = true) ∧ s.actCoreWrite 1 3 = s ∧ s.applyReset.run = .running ∧
    (s.applyReset.actCoreWrite 1 0).run = .stopped ∧ start.stopCore.actCoreWrite 1 1 = start.stopCore := by decide

/-- Nor does core 1's own MC_ACTCORE get a 1 for it (R53: a bit is 1 when its core runs). -/
theorem test_scr_keeps_stopped_core_0 :
    newActCore { start with cfg := { Config.standard with ncore := 3, myCore := 1 }, actCore := 2 } 1 0xFFFFFFFF = 6 ∧
    newActCore { start with cfg := { Config.standard with ncore := 3, myCore := 1 }, actCore := 7 } 1 0 = 2 := by decide

/-- TXS_DEFAULT_LE = none is for the unprefixed form (R322), also behind the prefix1 03 (log entry 30); a wider size leaves
the zero-extension of a transfer (R253), and the parameter `zero` gives it everywhere. -/
theorem test_txs_default_extension :
    let s := { start with cfg := { Config.standard with txsDefault := .none }, x := 0xABC001FF, sph := 0x12345678 }
    let sph := fun (u : State) bytes v => runs u bytes (fun t => t.sph == v)
    sph s [0x9A] 0x123456FF = true ∧ sph s [0x13, 0x9A] 0x1FF = true ∧ sph s [0x03, 0x9A] 0x123456FF = true ∧
    sph s [0x23, 0x9A] 0xABC001FF = true ∧ sph s [0x13, 0x0B, 0x9A] 0x123401FF = true ∧
    sph { s with cfg := Config.standard } [0x9A] 0xFF = true := by decide

/-- TYS takes the same default (R593). -/
theorem test_tys_default_extension :
    let s := { start with cfg := { Config.standard with txsDefault := .none }, y := 0xABC001FF, sph := 0x12345678 }
    runs s [0x0F, 0x8A] (fun t => t.sph == 0x123456FF) = true ∧
    runs s [0x13, 0x0F, 0x8A] (fun t => t.sph == 0x1FF) = true := by decide
/-! ### A state and operands that meet the hypotheses of each statement -/

/-- `W = 32` with a few bytes of memory, every flag but `D`, and numbers in every register. -/
def busy : State := { start with
  a := 0x12345680
  x := 4
  y := 0x80000010
  b := 0x100000
  spu := 0x2FF
  sr := { noFlags with c := true, v := true, n := true, z := true }
  mem := [(0x21, 0x40), (0x24, 0xFE), (0x200, 0xC3), (0x201, 0x0D), (0x202, 0x34), (0x203, 0x92), (0x4000, 0x92), (0x4001, 0x81)] }

/-- The busy state of a 16-bit machine. -/
def busy16 : State := { busy with cfg := cfg16, a := 0x5680, y := 0x8010, b := 0xF000 }

/-- The busy state of a 64-bit machine. -/
def busy64 : State := { busy with cfg := cfg64, a := 0x8000000012345680, x := 0xFFFFFFFFFFFFFFFF }

/-- A machine without the hypervisor option. -/
def bareCore : State := { start with cfg := cfgBare, cont := [], spu := 0 }

theorem witness_DecodeOfEncodeIsTheInstruction : ∀ i ∈ ([.adeImm (one .none .b64 false) 0xFFFFFFFFFFFFFFFF,
    .jmpQindAbsX (one .b .b8 true) 0xFFFF, .asrQuickE .none 7, .brk .none, .smmu .none] : List Instr), i.wellFormed = true := by decide

theorem witness_EncodeOfDecodeIsTheBytes :
    decode .atD4 [0x33, 0x6B, 0x0F, 0x25, 0x88, 0x77, 0x66, 0x55, 0x44, 0x33, 0x22, 0xFF, 0xEA] =
      .ok (.adeImm { one .none .b64 false with p2 := (two false .ones false).p2 } 0xFF22334455667788, [0xEA]) := by decide

/-- The first and the last byte of each range, in both modes. -/
theorem witness_ReservedPrefixesAndUnusedCodesAreRefused :
    (∀ s ∈ [start, user], ∀ bs ∈ ([[0x6F], [0xEF], [0x54], [0xD4], [0x0F, 0x00], [0x0F, 0xFF]] : List (List Byte)),
      let t := placeBytes s s.pc bs
      t.cfg.ncore = 1 ∧ t.run = .running ∧ acceptedInterrupt t = none ∧
      ∀ j ∈ List.range bs.length, readByte t t.cur (low t.w (t.pc + word j)) .fetch = .ok (bs.getD j 0)) ∧
    (∀ bs ∈ ([[0x2F, 0x00], [0x2F, 0xFF]] : List (List Byte)),
      let t := placeBytes start start.pc bs
      t.isHyp = true ∧ ∀ j ∈ List.range bs.length, readByte t t.cur (low t.w (t.pc + word j)) .fetch = .ok (bs.getD j 0)) ∧
    (0x00 : Byte) ∉ extCodes ∧ (0xFF : Byte) ∉ extCodes ∧ (0x00 : Byte) ∉ sysCodes ∧ (0xFF : Byte) ∉ sysCodes := by decide

/-- Every kind of step from a well-formed state: an instruction, a trap, an interrupt, a wait. -/
theorem witness_StepKeepsTheStateWellFormed : ∀ s ∈ [State.reset, placeBytes user user.pc [0x13, 0x8D, 0xFF, 0x20],
    placeBytes user user.pc [0x2F, 0x44], { busy16 with nmiPend := true }, { busy64 with run := .waiting }],
    s.wellFormed = true ∧ goesOn s (fun _ => true) = true := by decide

theorem witness_StepRunsTheInstructionAtThePc : ∃ (s : State) (i : Instr), atInstruction s ∧ i.wellFormed = true ∧
    ∀ j b, (encode s.cfg.mvnfuAt i)[j]? = some b → fetches s j b := by
  refine ⟨placeBytes user user.pc [0x8D, 0x00, 0x20], .staAbs .none 0x2000, ⟨by decide, by decide, by decide⟩, by decide, ?_⟩
  intro j b h
  have e : encode (placeBytes user user.pc [0x8D, 0x00, 0x20]).cfg.mvnfuAt (.staAbs .none 0x2000) = [0x8D, 0x00, 0x20] := by decide
  rw [e] at h
  match j, h with
  | 0, h => cases h; unfold fetches; decide
  | 1, h => cases h; unfold fetches; decide
  | 2, h => cases h; unfold fetches; decide
  | j + 3, h => simp at h

/-- A stopped core; the NMI; lines 1 and 7 just let through and just masked; nothing at all. -/
theorem witness_InterruptsAreAcceptedAtTheBoundary :
    start.cfg.ncore = 1 ∧ ({ start with run := .stopped } : State).run = .stopped ∧
    (start.run ≠ .stopped ∧ ({ start with nmiPend := true } : State).nmiPend = true) ∧
    (∀ k ∈ [1, 7], ∀ e ∈ [BitVec.ofNat 3 k, BitVec.ofNat 3 (k - 1)],
      let s := { start with eim := e, irqLine := 1 <<< k, run := .waiting }
      1 ≤ k ∧ k ≤ s.cfg.nirq ∧ s.irqLine.getLsbD k = true ∧ (∀ j < k, 1 ≤ j → s.irqLine.getLsbD j = false) ∧
      s.run ≠ .stopped ∧ s.nmiPend = false ∧ (k ≤ s.eim.toNat ∧ s.sr.i = false ∨ s.eim.toNat < k ∧ s.run = .waiting)) ∧
    (∀ j ≤ 7, ({ start with run := .waiting } : State).irqLine.getLsbD j = false) := by decide

/-- Eight bytes, none, and an address that wraps. -/
theorem witness_MemReadIsLittleEndian : (8 ≤ 8 ∧ 0 ≤ 8) ∧ memRead busy .hyp 0x200 8 = .ok 0x92340DC3 ∧ memRead busy .hyp 0x200 0 = .ok 0 ∧
    memRead busy16 .hyp 0xFFFF 2 = .ok 0 := by decide

/-- The stop at the first byte and at the last of eight. -/
theorem witness_MemWriteStoppedKeepsEarlierBytes : ∀ j ∈ [0, 7],
    let s := { user with cont := [{ mask := 0xFFFFFFFF, cmp := 0x2112, off := 0x5000D }] }
    let ea := 0x2100 - word j
    s.mem.wf = true ∧ j < 8 ∧ 8 ≤ 8 ∧ writable s .user ((upward ea (littleEndian 8 0x1122334455667788)).take j) = true ∧
    locate s .user (low s.w (ea + word j)) .write = .error (.abort .wprot) := by decide

/-- No container at all, none that matches, and nothing but a HYPERVISOR container. -/
theorem witness_TranslationWithoutAnEffectiveContainer :
    let skipped := { user with cont := [{ mask := 0xFFFF00FF, cmp := 0x12, off := 0x10003 }] }
    bareCore.cfg.ncont = 0 ∧ (∀ c ∈ user.cont, ¬ (word (0x1234 / 256 * 256 + user.mh.toNat) &&& c.mask = c.cmp ∧ c ≠ unset)) ∧
    skipped.cfg.ncont ≠ 0 ∧
    (∃ c ∈ skipped.cont, word (0x1234 / 256 * 256 + skipped.muCode.toNat) &&& c.mask = c.cmp ∧ c ≠ unset) ∧
    ∀ c ∈ skipped.cont, c.off.getLsbD 1 = true := by decide

/-- A HYPERVISOR container is passed over and the one after it is effective, with each outcome. -/
theorem witness_TranslationByTheEffectiveContainer : ∀ off ∈ [0x10001, 0x10000, 0x10005, 0x1000D, 0x10011],
    let c : Container := { mask := 0xFFFF00FF, cmp := 0x12, off := word off }
    let d : Container := { mask := 0xFFFF00FF, cmp := 0x12, off := 0x20003 }
    let s := { user with cont := [d] ++ c :: [unset] }
    Env.user ≠ .phys ∧ s.cfg.ncont ≠ 0 ∧ word (0x1234 / 256 * 256 + s.muCode.toNat) &&& c.mask = c.cmp ∧ c ≠ unset ∧
    c.off.getLsbD 1 = false ∧ d.off.getLsbD 1 = true := by decide

theorem witness_DirectEffectiveAddresses : ∀ s ∈ [busy, busy16, busy64, user, bareCore], s.wellFormed = true := by decide

/-- A pointer of each size. -/
theorem witness_IndirectEffectiveAddressesAndOperands :
    memRead busy (busy.denv .none) 0x200 2 = .ok 0x0DC3 ∧ memRead busy (busy.denv (one .none .b8 true)) 0x200 4 = .ok 0x92340DC3 ∧
    memRead busy (busy.denv (one .none .b8 true)) (0x1FC + busy.x) 8 = .ok 0x92340DC3 ∧
    effectiveAddress .indZp .none 0x20 busy = .ok 0x4000 := by decide

theorem witness_LoadsWriteTheExtendedOperand : (.a, Instr.ldaImm) ∈ loads ∧
    ready (.ldaImm (two false .sign false) 0x92) busy = true ∧ operand (.ldaImm (two false .sign false) 0x92) busy = .ok 0x92 ∧
    (.a, bare Instr.ldaE) ∈ loads ∧ ready (.ldaE (one .none .b16 false)) busy16 = true ∧
    operand (.ldaE (one .none .b16 false)) busy16 = .ok 0x8192 :=
  ⟨by simp [loads], by decide, by decide, by simp [loads], by decide, by decide⟩

theorem witness_StoresWriteTheRegisterBytes : (some .a, Instr.staAbs) ∈ stores ∧ user.wellFormed = true ∧
    ready (.staAbs (one .none .b32 false) 0xFFFE) user = true ∧ address (.staAbs (one .none .b32 false) 0xFFFE) user = .ok 0xFFFE ∧
    writable user .user (upward 0xFFFE (littleEndian 4 0)) = true :=
  ⟨by simp [stores], by decide, by decide, by decide, by decide⟩

theorem witness_TransfersExtendTheSource : (.x, stackPointer, bare Instr.tsx) ∈ transfers ∧ ready (.tsx (two true .zero false)) busy = true :=
  ⟨by simp [transfers], by decide⟩

theorem witness_StackPointerTransfersSetNoFlag : (.x, bare Instr.txs) ∈ toStack ∧ ready (.txs (two true .none false)) busy = true ∧
    (.y, bare Instr.tys) ∈ toStack ∧ ready (.tys (one .none .b16 false)) { busy with cfg := { busy.cfg with txsDefault := .none } } = true ∧
    ready (.tys .none) { busy with cfg := { busy.cfg with txsDefault := .none } } = true :=
  ⟨by simp [toStack], by decide, by simp [toStack], by decide, by decide⟩

theorem witness_WholeTransfersAndSwaps : (State.pc, bare Instr.tpa) ∈ wholeTransfers ∧ busy.wellFormed = true ∧
    permitted (.tpa .none) busy = true ∧ (.a, .x, bare Instr.sax) ∈ swaps ∧ permitted (.sax .none) busy = true :=
  ⟨by simp [wholeTransfers], by decide, by decide, by simp [swaps], by decide⟩

theorem witness_PushesWriteDownwards : (false, .a, bare Instr.pha) ∈ pushes ∧ (true, .e, bare Instr.phe) ∈ pushes ∧
    user.wellFormed = true ∧ ready (.pha (one .none .b32 false)) user = true ∧ ready (.phe .none) user = true ∧
    permitted (.prb .none) user = true ∧ writable user .user (downward user.spu (bigEndian 4 0x12345678)) = true :=
  ⟨by simp [pushes], by simp [pushes], by decide, by decide, by decide, by decide, by decide⟩

theorem witness_PullsReadUpwards : (false, .a, bare Instr.pla) ∈ pulls ∧ (true, .b, bare Instr.plb) ∈ pulls ∧
    ready (.pla .none) busy = true ∧ ready (.plb .none) busy = true ∧ memRead busy (busy.denv .none) (busy.sp .hyp + 1) 1 = .ok 0xC3 ∧
    memRead busy (busy.denv .none) (busy.sp .hyp + 1) 4 = .ok 0x92340DC3 :=
  ⟨by simp [pulls], by simp [pulls], by decide, by decide, by decide, by decide⟩

theorem witness_StatusIsPushedAndPulled : user.wellFormed = true ∧ permitted (.php .none) user = true ∧
    writable user user.cur (downward (user.sp user.cur) [BitVec.ofNat 8 (statusNumber user.sr true true)]) = true ∧
    permitted (.plp .none) busy = true ∧ memRead busy busy.cur (busy.sp busy.cur + 1) 1 = .ok 0xC3 := by decide

theorem witness_LogicWorksBitByBit : (or, Instr.oraImm) ∈ logicForms ∧ busy.wellFormed = true ∧
    ready (.oraImm (two false .sign false) 0x80) busy = true ∧ operand (.oraImm (two false .sign false) 0x80) busy = .ok 0x80 :=
  ⟨by simp [logicForms], by decide, by decide, by decide⟩

theorem witness_AddAndSubtractWithCarry : Instr.adcImm ∈ addForms ∧ Instr.sbcImm ∈ subtractForms ∧ busy64.wellFormed = true ∧
    busy64.sr.d = false ∧ ready (.adcImm (one .none .b64 false) 0xFFFFFFFFFFFFFFFF) busy64 = true ∧
    operand (.adcImm (one .none .b64 false) 0xFFFFFFFFFFFFFFFF) busy64 = .ok 0xFFFFFFFFFFFFFFFF ∧
    ready (.sbcImm .none 0) busy64 = true ∧ operand (.sbcImm .none 0) busy64 = .ok 0 :=
  ⟨by simp [addForms], by simp [subtractForms], by decide, by decide, by decide, by decide, by decide, by decide⟩

theorem witness_CompareSetsFlagsOnly : (.x, Instr.cpxImm) ∈ compareForms ∧ busy.wellFormed = true ∧ ready (.cpxImm .none 4) busy = true ∧
    operand (.cpxImm .none 4) busy = .ok 4 :=
  ⟨by simp [compareForms], by decide, by decide, by decide⟩

theorem witness_BitTestSetsFlagsOnly : Instr.bitImm ∈ bitForms ∧ Instr.bitAbs ∈ bitForms ∧ busy.wellFormed = true ∧
    ready (.bitImm .none 0x80) busy = true ∧ operand (.bitImm .none 0x80) busy = .ok 0x80 ∧ ready (.bitAbs .none 0x200) busy = true ∧
    operand (.bitAbs .none 0x200) busy = .ok 0xC3 ∧ ready (.bitA .none) busy = true :=
  ⟨by simp [bitForms], by simp [bitForms], by decide, by decide, by decide, by decide, by decide, by decide⟩

/-- A memory form, and a QUICK form with the least and the greatest count. -/
theorem witness_MemoryStepsReadAndWriteOnce : (.asl, false, fun p op _ => Instr.aslAbs p op) ∈ memorySteps ++ quickMemorySteps ∧
    (.rol, true, Instr.rolQuickZp) ∈ memorySteps ++ quickMemorySteps ∧ busy.wellFormed = true ∧
    ready (.aslAbs (one .none .b16 false) 0x200) busy = true ∧ address (.aslAbs (one .none .b16 false) 0x200) busy = .ok 0x200 ∧
    memRead busy busy.cur 0x200 2 = .ok 0x0DC3 ∧ writable busy busy.cur (upward 0x200 (littleEndian 2 0x1B86)) = true ∧
    (∀ n ∈ ([0, 7] : List (BitVec 3)), ready (.rolQuickZp .none 0x24 n) busy = true ∧ address (.rolQuickZp .none 0x24 n) busy = .ok 0x24) ∧
    memRead busy busy.cur 0x24 1 = .ok 0xFE ∧ writable busy busy.cur (upward 0x24 (littleEndian 1 0xFD)) = true :=
  ⟨by simp [memorySteps], by simp [quickMemorySteps], by decide, by decide, by decide, by decide, by decide, by decide, by decide, by decide⟩

theorem witness_RegisterStepsReplaceTheLowBits : (.asr, .a, false, fun p _ => Instr.asrA p) ∈ registerSteps ++ quickRegisterSteps ∧
    (.inc, .x, true, Instr.inxQuick) ∈ registerSteps ++ quickRegisterSteps ∧ ready (.asrA (one .none .b32 false)) busy = true ∧
    ready (.inxQuick .none 0) busy = true ∧ ready (.inxQuick .none 7) busy = true :=
  ⟨by simp [registerSteps], by simp [quickRegisterSteps], by decide, by decide, by decide⟩

theorem witness_TestAndSetOrResetBits : (true, Instr.tsbAbs) ∈ testForms ∧ (false, bare Instr.trbE) ∈ testForms ∧ busy.wellFormed = true ∧
    ready (.tsbAbs .none 0x200) busy = true ∧ address (.tsbAbs .none 0x200) busy = .ok 0x200 ∧ memRead busy busy.cur 0x200 1 = .ok 0xC3 ∧
    writable busy busy.cur (upward 0x200 (littleEndian 1 0xC3)) = true ∧ ready (.trbE .none) busy = true ∧
    address (.trbE .none) busy = .ok 0x4000 ∧ memRead busy busy.cur 0x4000 1 = .ok 0x92 ∧
    writable busy busy.cur (upward 0x4000 (littleEndian 1 0x12)) = true :=
  ⟨by simp [testForms], by simp [testForms], by decide, by decide, by decide, by decide, by decide, by decide, by decide, by decide,
    by decide⟩

theorem witness_FlagInstructionsNopAndBarriers : (id, bare Instr.nop) ∈ flagForms ∧ permitted (.nop .none) user = true ∧
    bare Instr.rmbE ∈ barrierForms ∧ permitted (.rmbE .none) user = true :=
  ⟨by simp [flagForms], by decide, by simp [barrierForms], by decide⟩

theorem witness_AddressSumsIgnoreCarryAndDecimal : (none, true, Instr.sbsImm) ∈ addressSums ∧ (some .e, false, bare Instr.adeA) ∈ addressSums ∧
    busy.wellFormed = true ∧ ready (.sbsImm (two false .sign false) 0xFF) busy = true ∧ ready (.adeA (one .none .b32 false)) busy = true :=
  ⟨by simp [addressSums], by simp [addressSums], by decide, by decide, by decide⟩

theorem witness_NegateAndExtendTheAccumulator : busy.wellFormed = true ∧ ready (.invA (two false .sign false)) busy = true ∧
    ready (.extA .none) busy = true := by decide

theorem witness_SwapHalvesAndCountBits : busy.wellFormed = true ∧ ready (.swpA (one .none .b16 false)) busy = true ∧
    ready (.bcnA .none) busy = true ∧ ready (.bcnE (one .none .b16 false)) busy = true ∧ memRead busy busy.cur busy.e 2 = .ok 0x8192 := by
  decide

theorem witness_BranchesAreRelativeToTheNextInstruction : ((fun r => r.v), Instr.bvs) ∈ branches ∧ permitted (.bvs .none 0x80) busy = true ∧
    ((fun _ => true), Instr.bra) ∈ branches ∧ permitted (.bra (one .none .b64 false) 0x8000000000000000) busy = true :=
  ⟨by simp [branches], by decide, by simp [branches], by decide⟩

theorem witness_EffectiveAddressIsJumpedToLoadedOrPushed : Instr.jmpIndAbsX ∈ jumps ∧ permitted (.jmpIndAbsX .none 0x1FC) busy = true ∧
    address (.jmpIndAbsX .none 0x1FC) busy = .ok 0x0DC3 ∧ Instr.leaAbsY ∈ leaForms ∧ permitted (.leaAbsY .none 0x200) busy = true ∧
    address (.leaAbsY .none 0x200) busy = .ok 0x80000210 ∧ Instr.peaAbs ∈ peaForms ∧ user.wellFormed = true ∧
    permitted (.peaAbs .none 0x1234) user = true ∧ address (.peaAbs .none 0x1234) user = .ok 0x1234 ∧
    writable user (user.denv .none) (downward (user.sp (user.denv .none)) (bigEndian user.wBytes 0x1234)) = true :=
  ⟨by simp [jumps], by decide, by decide, by simp [leaForms], by decide, by decide, by simp [peaForms], by decide, by decide, by decide,
    by decide⟩

theorem witness_CallsPushTheReturnAddress : Instr.jsrAbs ∈ calls ∧ Instr.bsrRel ∈ relativeCalls ∧ user.wellFormed = true ∧
    ready (.jsrAbs (one .none .b32 false) 0x2000) user = true ∧ address (.jsrAbs (one .none .b32 false) 0x2000) user = .ok 0x2000 ∧
    writable user .user (downward user.spu (bigEndian 4 0x1003)) = true ∧ ready (.bsrRel .none 0x80) user = true ∧
    writable user .user (downward user.spu (bigEndian 2 0x1001)) = true ∧
    (0xF82 : Word) = wrap user.w ((past (.bsrRel .none 0x80) user).pc.toNat + signed 8 0x80) :=
  ⟨by simp [calls], by simp [relativeCalls], by decide, by decide, by decide, by decide, by decide, by decide, by decide⟩

theorem witness_ReturnGoesPastThePulledAddress : ready (.rts .none) busy = true ∧ memRead busy busy.cur (busy.sp busy.cur + 1) 2 = .ok 0x0DC3 ∧
    ready (.rts (one .none .b32 false)) busy = true ∧ memRead busy busy.cur (busy.sp busy.cur + 1) 4 = .ok 0x92340DC3 := by decide

theorem witness_StoreConditionalNeedsTheReservation :
    let mine := { busy with link := some { env := .hyp, addr := 0x4000, nb := 1 } }
    mine.wellFormed = true ∧ ready (.llaE .none) mine = true ∧ memRead mine .hyp mine.e 1 = .ok 0x92 ∧ ready (.scaE .none) mine = true ∧
    mine.link = some { env := mine.denv .none, addr := mine.e, nb := 1 } ∧
    writable mine .hyp (upward mine.e (littleEndian 1 mine.a.toNat)) = true ∧ busy.link ≠ mine.link := by decide

theorem witness_BlockMovesCopyOneByteAStep : ((fun _ => .hyp), (fun _ => .user), true, bare Instr.mvptu) ∈ moveForms ∧
    ({ busy with a := 1, x := 0x200 } : State).wellFormed = true ∧ permitted (.mvptu .none) busy = true ∧
    (∀ n ∈ [1, 0xFFFFFFFF], ({ busy with a := word n } : State).a ≠ 0) ∧ ({ busy with a := 0 } : State).a = 0 ∧
    memRead { busy with x := 0x200 } .hyp 0x200 1 = .ok 0xC3 ∧ writable busy .user (upward busy.y (littleEndian 1 0xC3)) = true :=
  ⟨by simp [moveForms], by decide, by decide, by decide, by decide, by decide, by decide⟩

theorem witness_FillsWriteOneElementAStep :
    let counted := { busy with cfg := { Config.standard with filUnit := .bytes }, a := 2 }
    busy.wellFormed = true ∧ ready (.fil (one .none .b16 false)) busy = true ∧ busy.a ≠ 0 ∧ ({ busy with a := 0 } : State).a = 0 ∧
    counted.wellFormed = true ∧ counted.a.toNat % 2 = 0 ∧ writable busy busy.cur (upward busy.x (littleEndian 2 busy.y.toNat)) = true ∧
    permitted (.filu .none) busy = true ∧ writable busy .user (upward busy.x (littleEndian 1 busy.y.toNat)) = true := by decide

/-- The first and the last register of the list, and ST_TMV. -/
theorem witness_ConfigurationRegistersReadAsListed : busy.wellFormed = true ∧ permitted (.lcr .none 0) busy = true ∧
    permitted (.bcr .none 0x30) busy = true ∧ busy.cfg.ncont % 256 = 8 ∧ busy.cfg.crTmv = some 0x23 := by decide

/-- The greatest value each register takes. -/
theorem witness_ConfigurationRegistersAreWrittenAsListed : busy.wellFormed = true ∧ permitted (.scr .none 0x11) busy = true ∧
    (0x12345607 : Word).toNat % 256 < 8 ∧ (0x7FF : Word).toNat % 65536 < 2048 ∧ (0xFFFFFF00 : Word).toNat % 256 = 0 ∧
    (0xFFFFFE00 : Word).toNat % 512 = 0 ∧ busy.cfg.crTmv = some 0x23 := by decide

/-- The last container, and the first number after it. -/
theorem witness_SenvFillsOneContainer : busy.wellFormed = true ∧ permitted (.senv .none 7) busy = true ∧ busy.cfg.mmu = true ∧
    (0x107 : Word).toNat % 256 < busy.cfg.ncont ∧ permitted (.senvE .none 7) busy = true ∧
    memRead busy busy.cur busy.e busy.wBytes = .ok 0x8192 ∧ memRead busy busy.cur (busy.e + word busy.wBytes) busy.wBytes = .ok 0 ∧
    memRead busy busy.cur (busy.e + word (2 * busy.wBytes)) busy.wBytes = .ok 0 ∧ permitted (.senv .none 8) busy = true ∧
    busy.cfg.ncont ≤ (8 : Word).toNat % 256 ∧ bareCore.cfg.mmu = false ∧ permitted (.senv .none 0) bareCore = true := by decide

theorem witness_JpuEntersUserMode : busy.wellFormed = true ∧ busy.cfg.hyp = true ∧ permitted (.jpuAbs .none 0x2000) busy = true ∧
    address (.jpuAbs .none 0x2000) busy = .ok 0x2000 ∧ permitted (.jpuIndAbs .none 0x200) busy = true ∧
    readPointer .user .indAbs .none (operandAddress .indAbs .none 0x200 (past (.jpuIndAbs .none 0x200) busy) +
      offsetValue .none (past (.jpuIndAbs .none 0x200) busy)) busy = .ok 0x0DC3 := by decide

theorem witness_CleimWaiAndStp : permitted (.cleim .none) busy = true ∧ permitted (.wai .none) busy = true ∧
    permitted (.stp .none) busy = true := by decide

theorem witness_RefusalsTheSpecOrders :
    let wide : Instr := .ldaImm (one .none .b64 false) 5
    (wide.view.row.takes.rs = true ∧ wide.view.row.format ≠ .rel ∧ permitted wide busy = true ∧ busy.w < opBits wide.view.pfx) ∧
    (Instr.adcImm ∈ addForms ++ subtractForms ∧ ready (.adcImm .none 1) { busy with sr := { noFlags with d := true } } = true) ∧
    (bareCore.cfg.hyp = false ∧ (Instr.view (.ldaZp (two true .none false) 0)).pfx.um = true) ∧
    (bareCore.cfg.hyp = false ∧ Pfx.none.um = false) ∧ permitted (.smmu .none) busy = true :=
  ⟨by decide, ⟨by simp [addForms], by decide⟩, by decide, by decide, by decide⟩

theorem witness_PrivilegedInstructionsTakePrivopInUserMode : user.isHyp = false ∧ (Instr.view (.smmu .none)).row.page = .sys ∧
    (Instr.view (.ldaZp (two true .none false) 0x10)).pfx.um = true := by decide

/-- An instruction that goes on, one that takes an abort, and a trap. -/
theorem witness_UserModeCannotReachTheHypervisor : user.wellFormed = true ∧ user.isHyp = false ∧
    ∀ i ∈ ([.staAbs .none 0x2000, .lcr .none 0, .trp .none 0] : List Instr),
      (match exec i user with
        | .next _ => true
        | _ => false) = true := by decide

/-- The busy state with page `$20` without VALID and page `$22` with TRAPWRITE, for both match codes. -/
def walled : State := { busy with
  e := 0x1FFF, muCode := 0x12, mh := 1
  cont := [{ mask := 0xFFFF, cmp := 0x2001, off := 0 }, { mask := 0xFFFF, cmp := 0x2012, off := 0 },
    { mask := 0xFFFF, cmp := 0x2201, off := 0xD }, { mask := 0xFFFF, cmp := 0x2212, off := 0xD }, unset, unset, unset, unset] }

/-- The same in user mode. -/
def walledUser : State := { walled with sr := user.sr }

/-- A read aborts. -/
def readStops {α : Type} : Res α → Bool
  | .error { stop := .abort _, .. } => true
  | _ => false

/-- Byte `j` of a write is the first that aborts. -/
def writeStops (s : State) (env : Env) (cells : List (Word × Byte)) (j : Nat) : Bool := writable s env (cells.take j) &&
  match cells[j]? with
  | some c => (match locate s env (low s.w c.1) .write with
    | .error (.abort _) => true
    | _ => false)
  | none => false

/-- The forms of each clause. -/
theorem witness_LoadsAndStoresTakeTheAbortOfTheirAccess_forms :
    Instr.ldaAbs ∈ loads.map (·.2) ++ logicForms.map (·.2) ++ compareForms.map (·.2) ++ bitForms ∧
    Instr.sbcAbs ∈ addForms ++ subtractForms ∧ Instr.staIndAbsY ∈ stores.map (·.2) ++ calls ∧
    Instr.jmpIndAbs ∈ jumps ++ leaForms ++ peaForms ∧ (some .a, Instr.staAbs) ∈ stores ∧
    (.asl, false, fun p op _ => Instr.aslAbs p op) ∈ memorySteps ++ quickMemorySteps ∧
    (.rol, true, fun p _ n => Instr.rolQuickE p n) ∈ memorySteps ++ quickMemorySteps ∧ (true, Instr.tsbAbs) ∈ testForms ∧
    (false, .a, bare Instr.pha) ∈ pushes ∧ Instr.peaAbs ∈ peaForms ∧ Instr.jsrAbs ∈ calls ++ relativeCalls ∧
    Instr.bsrRel ∈ calls ++ relativeCalls ∧ Instr.bsrRel ∈ relativeCalls ∧ (true, .b, bare Instr.plb) ∈ pulls ∧
    (fun _ => .hyp, fun _ => .user, true, bare Instr.mvptu) ∈ moveForms := by
  refine ⟨?_, ?_, ?_, ?_, ?_, ?_, ?_, ?_, ?_, ?_, ?_, ?_, ?_, ?_, ?_⟩ <;>
    simp [loads, addForms, subtractForms, stores, calls, jumps, memorySteps, quickMemorySteps, testForms, pushes, peaForms,
      relativeCalls, pulls, moveForms]

/-- An operand that aborts on its first and on its last byte. -/
theorem witness_LoadsAndStoresTakeTheAbortOfTheirAccess_reads : walled.wellFormed = true ∧ walledUser.wellFormed = true ∧
    walledUser.sr.d = false ∧ ∀ i ∈ ([.ldaAbs (one .none .b16 false) 0x1FFF, .sbcAbs .none 0x2000] : List Instr),
      ready i walledUser = true ∧ readStops (operand i walledUser) = true := by decide

/-- A pointer that aborts on its first and on its last byte. -/
theorem witness_LoadsAndStoresTakeTheAbortOfTheirAccess_pointers :
    ∀ i ∈ ([.staIndAbsY .none 0x1FFF, .jmpIndAbs .none 0x2000] : List Instr),
      ready i walled = true ∧ readStops (address i walled) = true := by decide

/-- Such an abort is taken: its entry completes. -/
theorem witness_LoadsAndStoresTakeTheAbortOfTheirAccess_entry :
    runs walledUser [0xAD, 0x00, 0x20] (fun t => t.isHyp && t.pc == 0 && t.sr.p == false) = true := by decide

/-- A store that aborts on its first and on its last byte. -/
theorem witness_LoadsAndStoresTakeTheAbortOfTheirAccess_stores : ∀ s ∈ [walled, walledUser],
    ∀ c ∈ [(0x2200, 0), (0x21FF, 1)],
      ready (.staAbs (one .none .b16 false) c.1) s = true ∧ address (.staAbs (one .none .b16 false) c.1) s = .ok c.1 ∧
      writeStops s s.cur (upward c.1 (littleEndian 2 s.a.toNat)) c.2 = true := by decide

/-- A read-modify-write instruction whose read aborts, and one whose write aborts on its first and on its last byte. -/
theorem witness_LoadsAndStoresTakeTheAbortOfTheirAccess_steps :
    (∀ i ∈ ([.aslAbs (one .none .b16 false) 0x1FFF, .tsbAbs (one .none .b16 false) 0x1FFF] : List Instr),
      ready i walledUser = true ∧ address i walledUser = .ok 0x1FFF) ∧
    readStops (memRead walledUser .user 0x1FFF 2) = true ∧
    (ready (.rolQuickE .none 7) { walled with e := 0x2200 } = true ∧
      memRead { walled with e := 0x2200 } .hyp 0x2200 1 = .ok 0 ∧
      writeStops walled .hyp (upward 0x2200 (littleEndian 1 (steppedTimes .rol 8 8 (0, true)).1)) 0 = true) ∧
    ∀ c ∈ [(0x2200, 0), (0x21FF, 1)],
      (∀ i ∈ ([.aslAbs (one .none .b16 false) c.1, .tsbAbs (one .none .b16 false) c.1] : List Instr),
        ready i walledUser = true ∧ address i walledUser = .ok c.1) ∧
      memRead walledUser .user c.1 2 = .ok 0 ∧
      writeStops walledUser .user (upward c.1 (littleEndian 2 (steppedTimes .asl 16 1 (0, true)).1)) c.2 = true ∧
      writeStops walledUser .user (upward c.1 (littleEndian 2 walledUser.a.toNat)) c.2 = true := by decide

/-- A push that aborts on its first and on its second byte. -/
theorem witness_LoadsAndStoresTakeTheAbortOfTheirAccess_pushes : ∀ c ∈ [(0x22FF, 0), (0x2300, 1)],
    let s := { walledUser with spu := c.1 }
    (∀ i ∈ ([.pha (one .none .b16 false), .phe .none, .jsrAbs .none 0x3000, .bsrRel .none 0, .peaAbs .none 0x3000, .prb .none,
      .php .none] : List Instr), ready i s = true) ∧
    address (.jsrAbs .none 0x3000) s = .ok 0x3000 ∧ address (.peaAbs .none 0x3000) s = .ok 0x3000 ∧
    ∀ k ∈ [2, 4], writeStops s .user (downward s.spu (bigEndian k 0x3000)) c.2 = true := by decide

/-- PHP's one byte. -/
theorem witness_LoadsAndStoresTakeTheAbortOfTheirAccess_php : let s := { walled with sph := 0x22FF }
    permitted (.php .none) s = true ∧
    writeStops s .hyp (downward s.sph [BitVec.ofNat 8 (statusNumber s.sr true true)]) 0 = true := by decide

/-- A pull that aborts on its first and on its second byte. -/
theorem witness_LoadsAndStoresTakeTheAbortOfTheirAccess_pulls : ∀ c ∈ [(0x1FFF, 1), (0x1FFE, 2)],
    let s := { walledUser with spu := c.1 }
    (∀ i ∈ ([.pla (one .none .b16 false), .plb .none, .rts .none, .plp .none] : List Instr), ready i s = true) ∧
    ∀ k ∈ [c.2, 4], readStops (memRead s .user (s.spu + 1) k) = true := by decide

/-- The frame of RTI and RTU at each of their reads: the status byte, the 6502 frame, the extended status byte, the address. -/
theorem witness_LoadsAndStoresTakeTheAbortOfTheirAccess_frames :
    (let s := { walled with sph := 0x1FFF };
      permitted (.rti .none) s = true ∧ permitted (.rtu .none) s = true ∧ pullsFrom s = .hyp ∧
      readStops (memRead s .hyp (s.sph + word 1) 1) = true) ∧
    (let s := { walled with sph := 0x1FFE, mem := [(0x1FFF, 0x20)] };
      memRead s .hyp (s.sph + word 1) 1 = .ok 0x20 ∧ readStops (memRead s .hyp (s.sph + word 2) 2) = true) ∧
    (let s := { walled with sph := 0x1FFE };
      memRead s .hyp (s.sph + word 1) 1 = .ok 0 ∧ readStops (memRead s .hyp (s.sph + word 2) 1) = true) ∧
    (∀ c ∈ [(1, 2), (2, 4)],
      let s := { walled with sph := 0x1FFD, mem := [(0x1FFF, BitVec.ofNat 8 c.1)] };
      memRead s .hyp (s.sph + word 2) 1 = .ok (word c.1) ∧ (word c.1).toNat % 4 ≠ 0 ∧ announcedBytes (word c.1) = c.2 ∧
      c.2 ≤ s.wBytes ∧ readStops (memRead s .hyp (s.sph + word 3) c.2) = true) ∧
    (let s := { walled with sph := 0x1FFD, mem := [(0x1FFE, 1)] };
      memRead s .hyp (s.sph + word 1) 1 = .ok 1 ∧ readStops (memRead s .hyp (s.sph + word 2) 2) = true) := by decide

/-- LLA, SCA, BCN, the block steps, SENV at each of its three words, JPU. -/
theorem witness_LoadsAndStoresTakeTheAbortOfTheirAccess_others :
    (ready (.llaE (one .none .b16 false)) walled = true ∧ ready (.bcnE (one .none .b16 false)) walled = true ∧
      readStops (memRead walled .hyp walled.e 2) = true) ∧
    (let s := { walled with e := 0x21FF, link := some { env := .hyp, addr := 0x21FF, nb := 2 } };
      ready (.scaE (one .none .b16 false)) s = true ∧
      s.link = some { env := s.denv (one .none .b16 false), addr := s.e, nb := (one .none .b16 false).size.bytes } ∧
      writeStops s .hyp (upward s.e (littleEndian 2 s.a.toNat)) 1 = true) ∧
    (permitted (.mvptu .none) walled = true ∧ walled.a ≠ 0 ∧
      readStops (memRead { walled with x := 0x2000 } .hyp 0x2000 1) = true ∧ memRead walled .hyp walled.x 1 = .ok 0 ∧
      writeStops { walled with y := 0x2200 } .user (upward 0x2200 (littleEndian 1 0)) 0 = true) ∧
    (let s := { walled with x := 0x21FF };
      ready (.fil (one .none .b16 false)) s = true ∧ s.a ≠ 0 ∧ s.cfg.filUnit = .elements ∧
      writeStops s .hyp (upward s.x (littleEndian 2 s.y.toNat)) 1 = true) ∧
    (let s := { walled with x := 0x2200 };
      permitted (.filu .none) s = true ∧ writeStops s .user (upward s.x (littleEndian 1 s.y.toNat)) 0 = true) ∧
    (∀ j ∈ [0, 1, 2],
      let s := { walled with e := 0x2000 - word (j * 4) };
      permitted (.senvE .none 7) s = true ∧ s.cfg.mmu = true ∧ 7 < s.cfg.ncont ∧
      (∀ l < j, readable s s.cur (s.e + word (l * s.wBytes)) s.wBytes = true) ∧
      readStops (memRead s s.cur (s.e + word (j * s.wBytes)) s.wBytes) = true) ∧
    permitted (.jpuIndAbs .none 0x1FFF) walled = true ∧ walled.cfg.hyp = true ∧
    readStops (readPointer .user .indAbs .none (operandAddress .indAbs .none 0x1FFF (past (.jpuIndAbs .none 0x1FFF) walled) +
      offsetValue .none (past (.jpuIndAbs .none 0x1FFF) walled)) walled) = true := by decide

/-- The first byte, the byte after the opcode and the last one, of a privileged and of an unprivileged instruction. -/
theorem witness_LoadsAndStoresTakeTheAbortOfTheirAccess_fetch : ∀ s0 ∈ [walled, walledUser],
    ∀ i ∈ ([.ldaImm (one .none .b32 false) 0x12345678, .scr .none 0x20, .nop .none] : List Instr),
    let bs := encode s0.cfg.mvnfuAt i
    i.wellFormed = true ∧ ∀ j < bs.length,
      let s := placeBytes { s0 with pc := 0x2000 - word j } (0x2000 - word j) (bs.take j)
      s.cfg.ncore = 1 ∧ s.run = .running ∧ acceptedInterrupt s = none ∧
      (∀ l < j, readByte s s.cur (low s.w (s.pc + word l)) .fetch = .ok (bs.getD l 0)) ∧
      readByte s s.cur (low s.w (s.pc + word j)) .fetch = .error (.abort .nomem) := by decide

/-- The first and the last abort of the table, from either mode, with and without the table. -/
theorem witness_AbortEntryStacksAndEntersHypervisorMode : ∀ s ∈ [busy, { user with avAct := true, av := 0x1FF00 }, busy16, busy64],
    s.wellFormed = true ∧ s.fits 0x1003 = true ∧
    writable s s.cur (downward (s.sp s.cur)
      (extendedFrame s s.pc.toNat ++ [BitVec.ofNat 8 (statusNumber s.sr false false)])) = true ∧
    readable s .hyp (if s.avAct then s.av + 0xEE else wrap s.w (-8)) 2 = true := by decide

/-- The NMI and line 7. -/
theorem witness_VectoredInterruptEntry : ∀ k ∈ [0, 7], ∀ s ∈ [{ busy with ivAct := true, iv := 0x1FF00 }, { user with ivAct := true }],
    s.wellFormed = true ∧ k ≤ 7 ∧ s.ivAct = true ∧ ¬ (k ≠ 0 ∧ s.isHyp = false ∧ s.muUsel.toNat = k) ∧
    writable s s.cur (downward (s.sp s.cur)
      (extendedFrame s s.pc.toNat ++ [BitVec.ofNat 8 (statusNumber s.sr false false)])) = true ∧
    readable s .hyp (s.iv + word (2 * k)) 2 = true := by decide

/-- The NMI and line 7 without the table, and line 7 that user mode takes itself. -/
theorem witness_CompatibleAndUserInterruptEntry :
    (∀ k ∈ [0, 7], ∀ s ∈ [busy16, user],
      s.wellFormed = true ∧ k ≤ 7 ∧ s.ivAct = false ∧ ¬ (k ≠ 0 ∧ s.isHyp = false ∧ s.muUsel.toNat = k) ∧
      writable s s.cur (downward (s.sp s.cur) (compatFrame s s.pc.toNat false)) = true ∧
      readable s s.cur (wrap s.w (if k = 0 then -6 else -2)) 2 = true) ∧
    (let s := { user with muUsel := 7 };
      s.wellFormed = true ∧ s.isHyp = false ∧ s.muUsel.toNat = 7 ∧
      writable s s.cur (downward (s.sp s.cur) (compatFrame s s.pc.toNat false)) = true ∧ readable s .user 0xFFFE 2 = true) := by decide

/-- The greatest trap number that TMV lets through and the least that it does not. -/
theorem witness_TrapEntryOrMaxtrap : ∀ s ∈ [{ user with tmv := 3 }, { busy with tmv := 3, tvAct := true, tv := 0x1FE00 }],
    s.wellFormed = true ∧ permitted (.trp .none 2) s = true ∧ (2 : Word).toNat % 256 < s.tmv.toNat ∧
    writable s s.cur (downward (s.sp s.cur) (extendedFrame s 0x1001)) = true ∧
    readable s .hyp (if s.tvAct then s.tv + word (2 * 2) else wrap s.w (-10)) 2 = true ∧
    permitted (.trp .none 3) s = true ∧ s.tmv.toNat ≤ (3 : Word).toNat % 256 := by decide

theorem witness_BreakEntry : ∀ s ∈ [busy16, user, { user with ivAct := true }, { busy with avAct := true, av := 0x1FF00 }],
    s.wellFormed = true ∧ permitted (.brk .none) s = true ∧
    writable s s.cur (downward (s.sp s.cur) (compatFrame s 0x1002 true)) = true ∧
    writable s s.cur (downward (s.sp s.cur)
      (extendedFrame s 0x1002 ++ [BitVec.ofNat 8 (statusNumber s.sr false true)])) = true ∧
    readable s (if s.avAct ∨ s.ivAct then .hyp else s.cur) (if s.avAct then s.av + 0xFE else wrap s.w (-2)) 2 = true := by decide

/-- An extended frame, the 6502 frame, a frame size the core does not have, and `H` set in a frame on the user stack. -/
theorem witness_ReturnFromInterruptRestores :
    (busy.wellFormed = true ∧ permitted (.rti .none) busy = true ∧ memRead busy (pullsFrom busy) (busy.sph + 1) 1 = .ok 0xC3 ∧
      (0xC3 : Word).getLsbD 5 = false ∧ memRead busy (pullsFrom busy) (busy.sph + 2) 1 = .ok 0x0D ∧
      memRead busy (pullsFrom busy) (busy.sph + 3) 2 = .ok 0x9234) ∧
    (let s := { busy with sph := 0x201 };
      s.wellFormed = true ∧ memRead s (pullsFrom s) (s.sph + 1) 1 = .ok 0x34 ∧ (0x34 : Word).getLsbD 5 = true ∧
      memRead s (pullsFrom s) (s.sph + 2) 2 = .ok 0x92) ∧
    (let s := { user with spu := 0x1F0, mem := [(0x101F2, 0x0B)] };
      s.wellFormed = true ∧ memRead s (pullsFrom s) (s.spu + 1) 1 = .ok 0 ∧ memRead s (pullsFrom s) (s.spu + 2) 1 = .ok 0x0B ∧
      s.wBytes < 8 ∧ BitVec.ofNat 2 (0x0B : Word).toNat = 3) ∧
    (let s := { user with spu := 0x1F0, mem := [(0x101F2, 0x09)] };
      s.wellFormed = true ∧ pullsFrom s = .user ∧ memRead s (pullsFrom s) (s.spu + 1) 1 = .ok 0 ∧
      memRead s (pullsFrom s) (s.spu + 2) 1 = .ok 0x09 ∧ (0x09 : Word).getLsbD 3 = true ∧ 2 ≤ s.wBytes) := by decide

/-- A frame on the hypervisor stack, one on the user stack, a reserved size, and `H` set in a frame on the user stack. -/
theorem witness_ReturnToUserRestores :
    (let s := { busy with sph := 0x200 };
      s.wellFormed = true ∧ permitted (.rtu .none) s = true ∧ pullsFrom s = .hyp ∧ memRead s .hyp (s.sph + 1) 1 = .ok 0x0D ∧
      memRead s .hyp (s.sph + 2) 2 = .ok 0x9234) ∧
    (let s := { user with sr := { noFlags with p := false }, mem := [(0x10200, 0x06), (0x10201, 0x34)] };
      s.wellFormed = true ∧ permitted (.rtu .none) s = true ∧ pullsFrom s = .user ∧ memRead s .user (s.spu + 1) 1 = .ok 0x06 ∧
      (0x06 : Word).getLsbD 3 = false ∧ memRead s .user (s.spu + 2) 4 = .ok 0x34) ∧
    (let s := { user with sr := { noFlags with p := false }, mem := [(0x10200, 0x0C)] };
      memRead s .user (s.spu + 1) 1 = .ok 0x0C ∧ BitVec.ofNat 2 (0x0C : Word).toNat = 0) ∧
    (let s := { user with sr := { noFlags with p := false }, mem := [(0x10200, 0x09)] };
      memRead s .user (s.spu + 1) 1 = .ok 0x09 ∧ (0x09 : Word).getLsbD 3 = true ∧ 2 ≤ s.wBytes) := by decide

/-- From either mode. -/
theorem witness_RtuUndoesTrp : ∀ r ∈ [noFlags, user.sr],
    let s := { start with cfg := { Config.standard with ncont := 0 }, cont := [], spu := 0x2FF, tmv := 3, sr := r }
    s.wellFormed = true ∧ s.cfg.ncont = 0 ∧ s.cfg.vacant = [] ∧ (2 : Word).toNat % 256 < s.tmv.toNat := by decide

theorem witness_RtiUndoesAVectoredInterrupt : ∀ r ∈ [noFlags, user.sr],
    let s := { start with cfg := { Config.standard with ncont := 0 }, cont := [], spu := 0x2FF, ivAct := true, sr := r }
    s.wellFormed = true ∧ s.cfg.ncont = 0 ∧ s.cfg.vacant = [] ∧ s.ivAct = true ∧ ¬ (7 ≠ 0 ∧ s.isHyp = false ∧ s.muUsel.toNat = 7) := by
  decide

end Sys2Proof.Tests
end

section
/-! The encoding read back: the decoder returns a well-formed instruction from its own bytes (R150 to R178), part by part
in the order of the bytes. -/

namespace Sys2Proof

open Sys2Proof.Machine (toBytes ofBytes toBytes_length ofBytes_toBytes low_eq_self)

/-! ### Prefix bytes -/

/-- A prefix1 byte is taken for one (R151). -/
@[simp] theorem isPrefix1_prefix1Byte (q : Prefix1) : isPrefix1 (prefix1Byte q) = true := by
  obtain ⟨o, z, am⟩ := q
  cases o <;> cases z <;> cases am <;> rfl

/-- The fields of a prefix1 byte are read back (R151, R160, R161). -/
@[simp] theorem readPrefix1_prefix1Byte (q : Prefix1) : readPrefix1 (prefix1Byte q) = q := by
  obtain ⟨o, z, am⟩ := q
  cases o <;> cases z <;> cases am <;> rfl

/-- A prefix2 byte is taken for one (R152). -/
@[simp] theorem isPrefix2_prefix2Byte (q : Prefix2) : isPrefix2 (prefix2Byte q) = true := by
  obtain ⟨um, e, nf⟩ := q
  cases um <;> cases e <;> cases nf <;> rfl

/-- A prefix2 byte is not taken for a prefix1 (R151, R152). -/
@[simp] theorem isPrefix1_prefix2Byte (q : Prefix2) : isPrefix1 (prefix2Byte q) = false := by
  obtain ⟨um, e, nf⟩ := q
  cases um <;> cases e <;> cases nf <;> rfl

/-- The fields of a prefix2 byte are read back (R152, R162). -/
@[simp] theorem readPrefix2_prefix2Byte (q : Prefix2) : readPrefix2 (prefix2Byte q) = q := by
  obtain ⟨um, e, nf⟩ := q
  cases um <;> cases e <;> cases nf <;> rfl

/-- A written prefix1 is split off before any byte; where there is none, the next byte must not look like one. -/
theorem splitPrefix1_encoded (o : Option Prefix1) (b : Byte) (bs : List Byte) (h : o = none → isPrefix1 b = false) :
    splitPrefix1 ((o.map prefix1Byte).toList ++ b :: bs) = (o, b :: bs) := by
  cases o with
  | none => simp [splitPrefix1, h rfl]
  | some q => simp [splitPrefix1]

/-- A written prefix2, or none, is split off before a byte that does not look like one. -/
theorem splitPrefix2_encoded (o : Option Prefix2) (b : Byte) (bs : List Byte) (h : isPrefix2 b = false) :
    splitPrefix2 ((o.map prefix2Byte).toList ++ b :: bs) = (o, b :: bs) := by
  cases o with
  | none => simp [splitPrefix2, h]
  | some q => simp [splitPrefix2]

/-! ### Page and opcode byte -/

/-- A standard page opcode byte that the decoder does not take for a page byte, a prefix2, a misplaced prefix1 or a reserved
byte (R150 to R157); after a page byte every byte is an opcode. -/
def ReadsAsOpcode (pg : Page) (p : Pfx) (code : Byte) : Prop :=
  pg = .std → pageOf code = none ∧ isPrefix2 code = false ∧ (isPrefix1 code = true → p.am = true) ∧ code ∉ reservedBytes

/-- A written page byte selects its page (R155). -/
theorem splitPage_encoded {pg : Page} {p : Pfx} {code : Byte} (h : ReadsAsOpcode pg p code) (bs : List Byte) :
    splitPage (encodePage pg ++ code :: bs) = (pg, code :: bs) := by
  cases pg with
  | std =>
    obtain ⟨hpage, -, -, -⟩ := h rfl
    simp [encodePage, splitPage, hpage]
  | ext => rfl
  | sys => rfl
  | quick => rfl

/-- The first byte after the prefixes: no prefix2, and a prefix1 code only where AM was given (R153, R157). -/
theorem encodePage_append_eq_cons {pg : Page} {p : Pfx} {code : Byte} (h : ReadsAsOpcode pg p code) (bs : List Byte) :
    ∃ b bs', encodePage pg ++ code :: bs = b :: bs' ∧ isPrefix2 b = false ∧ (isPrefix1 b = true → p.am = true) := by
  cases pg with
  | std =>
    obtain ⟨-, hnot2, hdup, -⟩ := h rfl
    exact ⟨code, bs, rfl, hnot2, hdup⟩
  | ext => exact ⟨0x0F, code :: bs, rfl, by decide, fun h1 => absurd h1 (by decide)⟩
  | sys => exact ⟨0x2F, code :: bs, rfl, by decide, fun h1 => absurd h1 (by decide)⟩
  | quick => exact ⟨0x4F, code :: bs, rfl, by decide, fun h1 => absurd h1 (by decide)⟩

/-- Written prefixes, page and opcode byte are read back (R150). -/
theorem decodeHead_encoded {pg : Page} {p : Pfx} {code : Byte} (h : ReadsAsOpcode pg p code) (bs : List Byte) :
    decodeHead (encodePfx p ++ encodePage pg ++ code :: bs) = .ok { pfx := p, page := pg, code := code, rest := bs } := by
  obtain ⟨b, bs', hcons, hnot2, hdup⟩ := encodePage_append_eq_cons h bs
  have h2 : splitPrefix2 ((p.p2.map prefix2Byte).toList ++ b :: bs') = (p.p2, b :: bs') :=
    splitPrefix2_encoded p.p2 b bs' hnot2
  have h1 : splitPrefix1 ((p.p1.map prefix1Byte).toList ++ ((p.p2.map prefix2Byte).toList ++ b :: bs')) =
      (p.p1, (p.p2.map prefix2Byte).toList ++ b :: bs') := by
    cases hp2 : p.p2 with
    | some q => exact splitPrefix1_encoded p.p1 _ _ fun _ => isPrefix1_prefix2Byte q
    | none =>
      refine splitPrefix1_encoded p.p1 b bs' fun hp1 => ?_
      have ham : p.am = false := by simp [Pfx.am, hp1]
      simpa [ham] using hdup
  simp only [decodeHead, encodePfx, List.append_assoc, hcons, h1, h2]
  rw [← hcons, splitPage_encoded h]

/-- An opcode byte that reads as one is looked up in the table of its page (R172 to R178). -/
theorem lookupOpcode_of_entry {at_ : MvnfuCode} {h : Head} {b : Builder} (hr : ReadsAsOpcode h.page h.pfx h.code)
    (he : opcodeEntry h.page (sysCode at_ h.page h.code) = some b) : lookupOpcode at_ h = .ok b := by
  have hplaced : ¬ (h.page = .std ∧ (isPrefix2 h.code ∨ (isPrefix1 h.code ∧ h.pfx.am = false))) := by
    rintro ⟨hpg, hbad⟩
    obtain ⟨-, hnot2, hdup, -⟩ := hr hpg
    rcases hbad with h2 | ⟨h1, ham⟩
    · simp [hnot2] at h2
    · simp [hdup h1] at ham
  have hused : ¬ (h.page = .std ∧ h.code ∈ reservedBytes) := by
    rintro ⟨hpg, hmem⟩
    obtain ⟨-, -, -, hnot⟩ := hr hpg
    exact hnot hmem
  rw [lookupOpcode, if_neg hplaced, if_neg hused, he]

/-! ### The opcode table -/

/-- What the table's code must be for its row to be read back: on the standard page no page byte, prefix2 code or reserved
byte, and a prefix1 code only for a duplicate opcode (R156, R157); on the QUICK page the count bits are 0 (R175). -/
def Row.codeReadable (r : Row) : Bool := match r.page with
  | .std => pageOf r.code == none && !isPrefix2 r.code && (!isPrefix1 r.code || r.dup) && !reservedBytes.contains r.code
  | .quick => r.code &&& 0x70 == 0
  | .ext | .sys => true

/-- Every row of the opcode table has such a code. -/
theorem Instr.row_codeReadable (i : Instr) : i.view.row.codeReadable = true := by
  cases i <;> dsimp only [Instr.view] <;> decide

/-- `b` is the table's entry for the row of `i`, and makes `i` from the fields of `i`; off the QUICK page the count field is
not used. -/
structure IsBuilderOf (b : Builder) (i : Instr) : Prop where
  entry : opcodeEntry i.view.row.page i.view.row.code = some b
  row : ∀ p, builtRow b p = i.view.row
  build : ∀ n, b i.view.pfx (if i.view.row.page = .quick then i.view.cnt else n) i.view.op = i

/-- The decoder's tables hold every instruction under the code its row gives (R172 to R177). -/
theorem Instr.exists_builder (i : Instr) : ∃ b, IsBuilderOf b i := by
  cases i <;> refine ⟨_, by dsimp only [Instr.view, opcodeEntry]; rfl, fun _ => ?_, fun _ => ?_⟩ <;> rfl

/-! ### The encoded opcode byte -/

/-- Exchanging MVNFU and MVNTU twice changes nothing (R177). -/
@[simp] theorem sysCode_sysCode (at_ : MvnfuCode) (pg : Page) (c : Byte) : sysCode at_ pg (sysCode at_ pg c) = c := by
  by_cases h : pg = .sys ∧ at_ = .atD4 ∧ (c = 0x94 ∨ c = 0xD4)
  · obtain ⟨rfl, rfl, rfl | rfl⟩ := h <;> rfl
  · simp only [sysCode, if_neg h]

/-- Only the SYS page depends on `SYS_MVNFU_AT` (R177). -/
theorem sysCode_of_ne_sys {pg : Page} (h : pg ≠ .sys) (at_ : MvnfuCode) (c : Byte) : sysCode at_ pg c = c := by
  simp [sysCode, h]

/-- A mask does not see bits that are set outside it. -/
theorem or_and_of_and_eq_zero {c x m : Byte} (h : x &&& m = 0) : (c ||| x) &&& m = c &&& m := by
  ext i hi
  have hbit : (x[i] && m[i]) = false := by simpa using congrArg (fun v : Byte => v[i]) h
  simp [Bool.and_or_distrib_right, hbit]

/-- The code an instruction is entered under is found under its encoded opcode byte; on the QUICK page the lookup masks the
count field out (R172 to R177). -/
theorem opcodeEntry_encodeCode (at_ : MvnfuCode) (v : View) :
    opcodeEntry v.row.page (sysCode at_ v.row.page (encodeCode at_ v)) = opcodeEntry v.row.page v.row.code := by
  rw [encodeCode, sysCode_sysCode]
  by_cases hq : v.row.page = .quick
  · have hoff : ∀ n : BitVec 3, (n.setWidth 8 <<< 4 : Byte) &&& 0x8F = 0 ∧ (n.setWidth 8 <<< 4 : Byte) &&& 0x80 = 0 := by
      decide
    obtain ⟨hkey, hdir⟩ := hoff v.cnt
    simp only [hq, if_true, opcodeEntry, or_and_of_and_eq_zero hkey, or_and_of_and_eq_zero hdir]
  · rw [if_neg hq]

/-- The count field is read back from a code whose bits 6:4 are clear (R175). -/
theorem countField_or_shift (c : Byte) (n : BitVec 3) (hc : c &&& 0x70 = 0) :
    countField (c ||| (n.setWidth 8 <<< 4)) = n := by
  have hclear : c.extractLsb' 4 3 = 0#3 := by
    have hmask := congrArg (BitVec.extractLsb' 4 3) hc
    rwa [BitVec.extractLsb'_and, show (0x70 : Byte).extractLsb' 4 3 = BitVec.allOnes 3 by decide,
      BitVec.and_allOnes] at hmask
  have hcount : (n.setWidth 8 <<< 4 : Byte).extractLsb' 4 3 = n := by revert n; decide
  rw [countField, BitVec.extractLsb'_or, hclear, hcount, BitVec.zero_or]

/-- The count field of a QUICK instruction is read back from its opcode byte (R175). -/
theorem countField_encodeCode (at_ : MvnfuCode) {i : Instr} (hq : i.view.row.page = .quick) :
    countField (encodeCode at_ i.view) = i.view.cnt := by
  have hc : i.view.row.code &&& 0x70 = 0 := by simpa [Row.codeReadable, hq] using i.row_codeReadable
  rw [encodeCode, if_pos hq, sysCode_of_ne_sys (by simp [hq]), countField_or_shift _ _ hc]

/-- The encoded opcode byte reads as one: a duplicate opcode has the AM = 1 its row asks for (R157). -/
theorem readsAsOpcode_encodeCode (at_ : MvnfuCode) {i : Instr} (hp : i.prefixOk = true) :
    ReadsAsOpcode i.view.row.page i.view.pfx (encodeCode at_ i.view) := by
  intro hstd
  have hcode : encodeCode at_ i.view = i.view.row.code := by
    rw [encodeCode, sysCode_of_ne_sys (by simp [hstd]), if_neg (by simp [hstd])]
  have hread := i.row_codeReadable
  simp only [Row.codeReadable, hstd, Bool.and_eq_true, beq_iff_eq, Bool.not_eq_true', Bool.or_eq_true,
    List.contains_eq_mem, decide_eq_false_iff_not] at hread
  obtain ⟨⟨⟨hpage, hnot2⟩, hdup⟩, hnot⟩ := hread
  rw [hcode]
  refine ⟨hpage, hnot2, fun h1 => ?_, hnot⟩
  have hrow : i.view.row.dup = true := by simpa [h1] using hdup
  simp only [Instr.prefixOk, Row.admits, hrow, Bool.and_eq_true, Bool.not_true, Bool.false_or] at hp
  exact hp.2

/-! ### The whole instruction -/

/-- What stands before the operand bytes of an encoded instruction, with its operand bytes and what follows them. -/
def Instr.encodedHead (at_ : MvnfuCode) (i : Instr) (rest : List Byte) : Head where
  pfx := i.view.pfx
  page := i.view.row.page
  code := encodeCode at_ i.view
  rest := toBytes (i.view.row.format.operandBytes i.view.pfx) i.view.op ++ rest

/-- The operand bytes are read back (R166). -/
theorem decodeOperand_encoded {i : Instr} {b : Builder} (hb : IsBuilderOf b i) (hwf : i.wellFormed = true)
    (at_ : MvnfuCode) (rest : List Byte) :
    decodeOperand b (i.encodedHead at_ rest) = .ok (i, rest) := by
  obtain ⟨hprefix, hoperand⟩ : i.view.row.admits i.view.pfx = true ∧
      i.view.op.toNat < 2 ^ (8 * i.view.row.format.operandBytes i.view.pfx) := by
    simpa [Instr.wellFormed, Instr.prefixOk, Instr.operandOk] using hwf
  have hcount : b i.view.pfx (countField (encodeCode at_ i.view)) i.view.op = i := by
    have hbuild := hb.build (countField (encodeCode at_ i.view))
    split at hbuild
    · rename_i hq
      rwa [countField_encodeCode at_ hq]
    · exact hbuild
  have hlen := toBytes_length (i.view.row.format.operandBytes i.view.pfx) i.view.op
  simp [decodeOperand, Instr.encodedHead, hb.row, hprefix, List.take_left' hlen, List.drop_left' hlen, ofBytes_toBytes,
    low_eq_self hoperand, hcount]

/-- Decoding the bytes of a well-formed instruction gives the instruction, and leaves what follows it (R150 to R177). -/
theorem decode_encode_append (at_ : MvnfuCode) {i : Instr} (hwf : i.wellFormed = true) (rest : List Byte) :
    decode at_ (encode at_ i ++ rest) = .ok (i, rest) := by
  obtain ⟨b, hb⟩ := i.exists_builder
  have hprefix : i.prefixOk = true := by
    rw [Instr.wellFormed, Bool.and_eq_true] at hwf
    exact hwf.1
  have hreads := readsAsOpcode_encodeCode at_ hprefix
  have hentry := (opcodeEntry_encodeCode at_ i.view).trans hb.entry
  have hhead : decodeHead (encode at_ i ++ rest) = .ok (i.encodedHead at_ rest) := by
    rw [encode, List.append_assoc, List.cons_append, decodeHead_encoded hreads]
    rfl
  have hlookup : lookupOpcode at_ (i.encodedHead at_ rest) = .ok b := lookupOpcode_of_entry hreads hentry
  simp only [decode, hhead, hlookup, decodeOperand_encoded hb hwf]

end Sys2Proof
end

section
/-! Fetching an instruction from the pc on, and the step that runs it (R12, R128, R150). -/

namespace Sys2Proof.Machine

open Sys2Proof.Claims

/-- The address after that of byte `j` from the pc on is that of byte `j + 1`, modulo `2^W` (R108). -/
theorem low_pc_word_succ (s : State) (j : Nat) :
    low s.w (low s.w (s.pc + word j) + 1) = low s.w (s.pc + word (j + 1)) := by
  have hword : word (j + 1) = word j + 1 := by simp [word, BitVec.ofNat_add]
  rw [low_low_add _ _ _ s.w_le, hword, BitVec.add_assoc]

/-- Fetching at least as many bytes as are known to stand there begins with them. -/
theorem fetchBytes_eq_append (s : State) : ∀ (bs : List Byte) (k j : Nat), bs.length ≤ k →
    (∀ m b, bs[m]? = some b → fetches s (j + m) b) →
    ∃ rest, (fetchBytes s k (low s.w (s.pc + word j))).1 = bs ++ rest
  | [], _, _, _, _ => ⟨_, rfl⟩
  | b :: bs, 0, _, hk, _ => absurd hk (by simp)
  | b :: bs, k + 1, j, hk, hbs => by
    have hfirst : readByte s s.cur (low s.w (s.pc + word j)) .fetch = .ok b := hbs 0 b rfl
    have hothers : ∀ m c, bs[m]? = some c → fetches s (j + 1 + m) c := fun m c hc => by
      rw [show j + 1 + m = j + (m + 1) by omega]
      exact hbs (m + 1) c hc
    obtain ⟨rest, hrest⟩ := fetchBytes_eq_append s bs k (j + 1) (by simpa using hk) hothers
    exact ⟨rest, by simp only [fetchBytes, hfirst, low_pc_word_succ, hrest, List.cons_append]⟩

/-- The fetch finds the well-formed instruction whose bytes stand from the pc on (R128, R150). -/
theorem fetchInstr_of_fetches {s : State} {i : Instr} (hwf : i.wellFormed = true)
    (hbytes : ∀ j b, (encode s.cfg.mvnfuAt i)[j]? = some b → fetches s j b) : fetchInstr s = .ok i := by
  obtain ⟨-, hlen⟩ := Laws.encodingHasDeclaredLength i s.cfg.mvnfuAt
  obtain ⟨rest, hrest⟩ := fetchBytes_eq_append s (encode s.cfg.mvnfuAt i) maxInstrBytes 0 hlen (by simpa using hbytes)
  have hwindow : (fetchWindow s).1 = encode s.cfg.mvnfuAt i ++ rest := by simpa [fetchWindow, word] using hrest
  rw [fetchInstr, hwindow, decode_encode_append _ hwf]

/-- A step at an instruction runs what the fetch finds (R12). -/
theorem step_of_fetchInstr {s : State} {i : Instr} (hat : atInstruction s) (hfetch : fetchInstr s = .ok i) :
    step s = exec i s := by
  obtain ⟨hcore, hrun, hint⟩ := hat
  simp [step, hcore, hrun, hint, hfetch]

/-- Settles O9: the fetch window begins with the encoding, and the decoder reads the encoding back. -/
theorem stepRunsTheInstructionAtThePc : Obligations.StepRunsTheInstructionAtThePc :=
  fun _ _ hat hwf hbytes => step_of_fetchInstr hat (fetchInstr_of_fetches hwf hbytes)

end Sys2Proof.Machine
end

section
/-! What reset leaves (R74, R76, R740). -/

namespace Sys2Proof.Machine

/-- Settles O5: the fields are read off the definition of reset; every container set is a copy of the all-zero one. -/
theorem resetLeavesTheListedValues : Obligations.ResetLeavesTheListedValues := by
  intro s t
  have hlength : t.cont.length = s.cfg.ncont := List.length_replicate
  have hzero : ∀ c ∈ t.cont, c = { mask := 0, cmp := 0, off := 0 } := fun c hc => List.eq_of_mem_replicate hc
  exact ⟨rfl, rfl, rfl, rfl, rfl, rfl, rfl, rfl, rfl, rfl, rfl, rfl, rfl, rfl, rfl, hlength, hzero, rfl, rfl, rfl, rfl⟩

/-- Settles O7: both parts are closed facts about the one reset state. -/
theorem resetStateIsWellFormed : Obligations.ResetStateIsWellFormed := ⟨by decide, by decide⟩

end Sys2Proof.Machine
end

section
/-! What every operation keeps of a good state (R21, R27, R39, R44 to R46, R53, R67, R79, R701). -/

namespace Sys2Proof.Machine

/-! ### Good states -/

/-- Memory in canonical form, inside an address space of `w` bits (R102). -/
structure MemoryFits (w : Nat) (m : Memory) : Prop where
  canonical : m.wf = true
  inside : ∀ c ∈ m, c.1 < 2 ^ w

/-- A well-formed state of a machine with `W = w`. -/
structure GoodState (w : Nat) (s : State) : Prop where
  width : s.w = w
  registers : s.registersOk = true
  status : s.statusOk = true
  containers : s.containersOk = true
  memory : MemoryFits w s.mem
  activity : s.activityOk = true

theorem memoryOk_iff (s : State) : s.memoryOk = true ↔ MemoryFits s.w s.mem := by
  simp only [State.memoryOk, Bool.and_eq_true, List.all_eq_true, decide_eq_true_eq]
  exact ⟨fun ⟨hwf, hin⟩ => ⟨hwf, hin⟩, fun ⟨hwf, hin⟩ => ⟨hwf, hin⟩⟩

theorem goodState_iff (w : Nat) (s : State) : GoodState w s ↔ s.wellFormed = true ∧ s.w = w := by
  simp only [State.wellFormed, Bool.and_eq_true, memoryOk_iff]
  constructor
  · rintro ⟨rfl, hr, hs, hc, hm, ha⟩
    exact ⟨⟨⟨⟨⟨hr, hs⟩, hc⟩, hm⟩, ha⟩, rfl⟩
  · rintro ⟨⟨⟨⟨⟨hr, hs⟩, hc⟩, hm⟩, ha⟩, rfl⟩
    exact ⟨rfl, hr, hs, hc, hm, ha⟩

theorem GoodState.of_wellFormed {s : State} (h : s.wellFormed = true) : GoodState s.w s := (goodState_iff _ _).2 ⟨h, rfl⟩

theorem GoodState.wellFormed {w : Nat} {s : State} (h : GoodState w s) : s.wellFormed = true := ((goodState_iff _ _).1 h).1

/-- A value that `W` bits hold. -/
theorem fits_iff (s : State) (v : Word) : s.fits v = true ↔ v.toNat < 2 ^ s.w := by
  rw [State.fits, beq_iff_eq, low_eq_self_iff]

theorem low_lt (n : Nat) (v : Word) : (low n v).toNat < 2 ^ n := by
  rw [low_toNat]; exact Nat.mod_lt _ (Nat.two_pow_pos n)

/-- The registers that are `W` bits wide (R21 to R27, R44 to R47, R53). -/
def State.wideRegisters (s : State) : List Word :=
  [s.a, s.x, s.y, s.e, s.b, s.spu, s.sph, s.pc, s.iv, s.av, s.tv, s.tmv, s.actCore]

theorem registersOk_iff (s : State) : s.registersOk = true ↔
    s.cfg.legal = true ∧ (∀ v ∈ s.wideRegisters, v.toNat < 2 ^ s.w) ∧
      low 8 s.iv = 0 ∧ low 8 s.av = 0 ∧ low 9 s.tv = 0 := by
  simp [State.registersOk, State.wideRegisters, fits_iff, and_assoc]

theorem GoodState.wide {w : Nat} {s : State} (h : GoodState w s) {v : Word} (hv : v ∈ s.wideRegisters) :
    v.toNat < 2 ^ w := by
  obtain ⟨-, hwide, -⟩ := (registersOk_iff s).1 h.registers
  exact h.width ▸ hwide v hv

/-! ### Updates of a good state -/

/-- New values for the registers of instructions, the stack pointers and the pc, each `W` bits wide. -/
theorem GoodState.set_registers {w : Nat} {s : State} (h : GoodState w s) {a x y e b spu sph pc : Word}
    (hv : ∀ v ∈ [a, x, y, e, b, spu, sph, pc], v ∈ s.wideRegisters ∨ v.toNat < 2 ^ w) :
    GoodState w { s with a, x, y, e, b, spu, sph, pc } := by
  obtain ⟨hlegal, hwide, haligned⟩ := (registersOk_iff s).1 h.registers
  refine ⟨h.width, (registersOk_iff _).2 ⟨hlegal, fun v hmem => ?_, haligned⟩, h.status, h.containers, h.memory, h.activity⟩
  have hold : v ∈ s.wideRegisters → v.toNat < 2 ^ s.w := hwide v
  have hnew := hv v
  rw [← h.width] at hnew
  simp only [State.wideRegisters, List.mem_cons, List.not_mem_nil, or_false] at hmem hold hnew
  change v.toNat < 2 ^ s.w
  grind

theorem GoodState.setReg {w : Nat} {s : State} (h : GoodState w s) (r : Reg) (v : Word) : GoodState w (s.setReg r v) := by
  have hv : (low s.w v).toNat < 2 ^ w := h.width ▸ low_lt _ _
  cases r <;> exact h.set_registers (by simp [State.wideRegisters, -low_toNat, hv])

theorem GoodState.setPc {w : Nat} {s : State} (h : GoodState w s) (v : Word) : GoodState w (s.setPc v) := by
  have hv : (low s.w v).toNat < 2 ^ w := h.width ▸ low_lt _ _
  exact h.set_registers (by simp [State.wideRegisters, -low_toNat, hv])

theorem GoodState.setSp {w : Nat} {s : State} (h : GoodState w s) (env : Env) (v : Word) : GoodState w (s.setSp env v) := by
  have hv : (low s.w v).toNat < 2 ^ w := h.width ▸ low_lt _ _
  cases env <;> exact h.set_registers (by simp [State.wideRegisters, -low_toNat, hv])

/-- The flags `N, V, D, I, Z, C` are free. -/
theorem GoodState.set_flags {w : Nat} {s : State} (h : GoodState w s) (n v d i z c : Bool) :
    GoodState w { s with sr := { s.sr with n, v, d, i, z, c } } :=
  ⟨h.width, h.registers, h.status, h.containers, h.memory, h.activity⟩

theorem GoodState.set_memory {w : Nat} {s : State} (h : GoodState w s) {m : Memory} (hm : MemoryFits w m) :
    GoodState w { s with mem := m } := ⟨h.width, h.registers, h.status, h.containers, hm, h.activity⟩

/-- Masks, match codes, the reservation and the NMI request are free. -/
theorem GoodState.set_narrow {w : Nat} {s : State} (h : GoodState w s) (imr eim muUsel : BitVec 3) (mh muCode : Byte)
    (nmiPend : Bool) (link : Option Link) : GoodState w { s with imr, eim, muUsel, mh, muCode, nmiPend, link } :=
  ⟨h.width, h.registers, h.status, h.containers, h.memory, h.activity⟩

theorem statusOk_iff (s : State) : s.statusOk = true ↔
    codeBytes s.sr.sf ≠ 0 ∧ codeBytes s.sr.sf ≤ s.wBytes ∧ (s.cfg.hyp = false → s.sr.h = true ∧ s.sr.p = true) := by
  simp only [State.statusOk, Bool.and_eq_true, bne_iff_ne, decide_eq_true_eq, Bool.or_eq_true, and_assoc]
  cases s.cfg.hyp <;> simp

theorem GoodState.setH {w : Nat} {s : State} (h : GoodState w s) (v : Bool) : GoodState w (s.setH v) := by
  obtain ⟨hne, hle, hmode⟩ := (statusOk_iff s).1 h.status
  refine ⟨h.width, h.registers, (statusOk_iff _).2 ⟨hne, hle, fun hhyp => ⟨?_, (hmode hhyp).2⟩⟩, h.containers, h.memory, h.activity⟩
  rw [State.setH_cfg] at hhyp
  simp [hhyp]

theorem GoodState.setP {w : Nat} {s : State} (h : GoodState w s) (v : Bool) : GoodState w (s.setP v) := by
  obtain ⟨hne, hle, hmode⟩ := (statusOk_iff s).1 h.status
  refine ⟨h.width, h.registers, (statusOk_iff _).2 ⟨hne, hle, fun hhyp => ⟨(hmode hhyp).1, ?_⟩⟩, h.containers, h.memory, h.activity⟩
  rw [State.setP_cfg] at hhyp
  simp [hhyp]

/-- A frame size that the core has (R39). -/
theorem GoodState.setSf {w : Nat} {s : State} (h : GoodState w s) {sf : BitVec 2} (hne : codeBytes sf ≠ 0)
    (hle : codeBytes sf ≤ s.wBytes) : GoodState w (s.setSf sf) := by
  obtain ⟨-, -, hmode⟩ := (statusOk_iff s).1 h.status
  exact ⟨h.width, h.registers, (statusOk_iff _).2 ⟨hne, hle, hmode⟩, h.containers, h.memory, h.activity⟩

theorem activityOk_iff (s : State) : s.activityOk = true ↔
    s.w ≤ s.cfg.myCore ∨ (s.actCore.getLsbD s.cfg.myCore = true ↔ s.run ≠ .stopped) := by
  rw [State.activityOk, Bool.or_eq_true, decide_eq_true_eq, beq_iff_eq, Bool.eq_iff_iff, bne_iff_ne]

/-- A core that was not stopped may run or wait (R53). -/
theorem GoodState.set_run {w : Nat} {s : State} (h : GoodState w s) (hs : s.run ≠ .stopped) {r : Run} (hr : r ≠ .stopped) :
    GoodState w { s with run := r } :=
  ⟨h.width, h.registers, h.status, h.containers, h.memory,
    (activityOk_iff _).2 (((activityOk_iff s).1 h.activity).imp id fun e => e.trans (iff_of_true hs hr))⟩

/-- The vector bases, `TMV` and whether the tables are on (R44 to R47, R71). -/
theorem GoodState.set_bases {w : Nat} {s : State} (h : GoodState w s) {iv av tv tmv : Word} (ivAct avAct tvAct : Bool)
    (hv : ∀ v ∈ [iv, av, tv, tmv], v.toNat < 2 ^ w) (hiv : low 8 iv = 0) (hav : low 8 av = 0) (htv : low 9 tv = 0) :
    GoodState w { s with iv, av, tv, tmv, ivAct, avAct, tvAct } := by
  obtain ⟨hlegal, hwide, -⟩ := (registersOk_iff s).1 h.registers
  refine ⟨h.width, (registersOk_iff _).2 ⟨hlegal, fun v hmem => ?_, hiv, hav, htv⟩, h.status, h.containers, h.memory, h.activity⟩
  have hold := hwide v
  have hnew := hv v
  rw [← h.width] at hnew
  simp only [State.wideRegisters, List.mem_cons, List.not_mem_nil, or_false] at hmem hold hnew
  change v.toNat < 2 ^ s.w
  grind

/-- MC_ACTCORE and the run state, if they agree (R53). -/
theorem GoodState.set_actCore {w : Nat} {s : State} (h : GoodState w s) {v : Word} {r : Run} (hv : v.toNat < 2 ^ w)
    (hown : s.w ≤ s.cfg.myCore ∨ (v.getLsbD s.cfg.myCore = true ↔ r ≠ .stopped)) :
    GoodState w { s with actCore := v, run := r } := by
  obtain ⟨hlegal, hwide, haligned⟩ := (registersOk_iff s).1 h.registers
  refine ⟨h.width, (registersOk_iff _).2 ⟨hlegal, fun u hmem => ?_, haligned⟩, h.status, h.containers, h.memory,
    (activityOk_iff _).2 hown⟩
  have hold := hwide u
  rw [← h.width] at hv
  simp only [State.wideRegisters, List.mem_cons, List.not_mem_nil, or_false] at hmem hold
  change u.toNat < 2 ^ s.w
  grind

theorem containersOk_iff (s : State) : s.containersOk = true ↔ s.cont.length = s.cfg.ncont ∧
    ∀ c ∈ s.cont, c.mask.toNat < 2 ^ s.w ∧ c.cmp.toNat < 2 ^ s.w ∧ c.off.toNat < 2 ^ s.w := by
  simp [State.containersOk, fits_iff, and_assoc]

/-- One container set (R67). -/
theorem GoodState.set_container {w : Nat} {s : State} (h : GoodState w s) (k : Nat) {m c o : Word} (hm : m.toNat < 2 ^ w)
    (hc : c.toNat < 2 ^ w) (ho : o.toNat < 2 ^ w) :
    GoodState w { s with cont := s.cont.set k { mask := m, cmp := c, off := o } } := by
  obtain ⟨hlen, hold⟩ := (containersOk_iff s).1 h.containers
  refine ⟨h.width, h.registers, h.status, (containersOk_iff _).2 ⟨by simpa using hlen, fun d hd => ?_⟩, h.memory, h.activity⟩
  rcases List.mem_or_eq_of_mem_set hd with hd | rfl
  · exact hold d hd
  · exact h.width ▸ ⟨hm, hc, ho⟩

theorem GoodState.setI {w : Nat} {s : State} (h : GoodState w s) (v : Bool) : GoodState w (s.setI v) := h.set_flags ..

theorem GoodState.setEim {w : Nat} {s : State} (h : GoodState w s) (v : BitVec 3) : GoodState w (s.setEim v) := h.set_narrow ..

theorem GoodState.stopCore {w : Nat} {s : State} (h : GoodState w s) : GoodState w s.stopCore := by
  have hfits : (s.actCore &&& ~~~coreBit s.cfg.myCore).toNat < 2 ^ w := by
    rw [BitVec.toNat_and]
    exact Nat.lt_of_le_of_lt Nat.and_le_left (h.wide (by simp [State.wideRegisters]))
  exact h.set_actCore hfits ((activityOk_iff s.stopCore).1 (stopCore_activityOk s))

theorem GoodState.unlink {w : Nat} {s : State} (h : GoodState w s) : GoodState w s.unlink := h.set_narrow ..


/-! ### Writes to memory stay in the address space -/

/-- A container's offset moves an address inside the address space (R119, R126). -/
theorem searchContainers_lt {w : Nat} {env : Env} {ea key p : Word} {kind : Access} (hea : ea.toNat < 2 ^ w) :
    ∀ {cs : List Container} {skipped : Bool}, (∀ c ∈ cs, c.off.toNat < 2 ^ w) →
      searchContainers env ea key kind cs skipped = .ok (some p) → p.toNat < 2 ^ w
  | [], skipped, _, h => by
    cases skipped <;> simp only [searchContainers, if_true, Bool.false_eq_true, if_false] at h <;> cases h
    exact hea
  | c :: cs, skipped, hcs, h => by
    have hrest : ∀ c ∈ cs, c.off.toNat < 2 ^ w := fun d hd => hcs d (.tail _ hd)
    have hmoved : (ea ||| withLowByte c.off 0).toNat < 2 ^ w := by
      have hoff : (withLowByte c.off 0).toNat ≤ c.off.toNat := by
        simp [withLowByte, BitVec.toNat_shiftLeft, Nat.shiftRight_eq_div_pow, Nat.shiftLeft_eq]
        have := c.off.isLt
        omega
      rw [BitVec.toNat_or]
      exact Nat.or_lt_two_pow hea (Nat.lt_of_le_of_lt hoff (hcs c (.head _)))
    unfold searchContainers at h
    split at h
    · split at h
      · exact searchContainers_lt hea hrest h
      · split at h
        · cases h
        · split at h
          · cases h
          · split at h
            · split at h <;> cases h
            · cases h
              exact hmoved
    · exact searchContainers_lt hea hrest h

/-- A located byte lies in the address space (R102). -/
theorem GoodState.locate_lt {w : Nat} {s : State} (h : GoodState w s) {env : Env} {ea : Word} {kind : Access} {q : Nat}
    (hea : low s.w ea = ea) (hl : locate s env ea kind = .ok (some q)) : q < 2 ^ w := by
  rw [low_eq_self_iff, h.width] at hea
  obtain ⟨-, hcont⟩ := (containersOk_iff s).1 h.containers
  have hoff : ∀ c ∈ s.cont, c.off.toNat < 2 ^ w := fun c hc => h.width ▸ (hcont c hc).2.2
  have htranslated : ∀ p, translate s env ea kind = .ok (some p) → p.toNat < 2 ^ w := fun p hp => by
    unfold translate at hp
    split at hp
    · cases hp
      exact hea
    · exact searchContainers_lt hea hoff hp
  unfold locate at hl
  split at hl
  · cases hl
  · cases hl
  · rename_i p hp
    split at hl
    · cases hl
    · cases hl
      exact htranslated p hp

/-- A write at an address inside the address space. -/
theorem MemoryFits.store {w : Nat} {m : Memory} (hm : MemoryFits w m) {q : Nat} (hq : q < 2 ^ w) (v : Byte) :
    MemoryFits w (m.store q v) where
  canonical := Memory.wf_store hm.canonical q v
  inside c hc := by
    rcases Memory.mem_store hc with hold | rfl
    · exact hm.inside c hold
    · exact hq

/-! ### Results -/

/-- A good next state, or a stop that leaves a good memory. -/
def GoodResult (w : Nat) : Res State → Prop
  | .ok t => GoodState w t
  | .error h => MemoryFits w h.mem

/-- An operation on `s` that only reads: where it stops, memory is as it was. -/
structure StopsInPlace {α : Type} (s : State) (r : Res α) : Prop where
  mem_eq : ∀ h, r = .error h → h.mem = s.mem

theorem GoodResult.of_ok {w : Nat} {r : Res State} {t : State} (h : GoodResult w r) (ht : r = .ok t) : GoodState w t := by
  rw [ht] at h
  exact h

theorem GoodResult.of_halt {w : Nat} {s : State} (h : GoodState w s) (x : Stop) : GoodResult w (halt s x) := h.memory

/-- First a read, then what is done with the value read. -/
theorem GoodResult.after_read {w : Nat} {s : State} {r : Res Word} {f : Word → Res State} :
    GoodState w s → StopsInPlace s r → (∀ v, r = .ok v → GoodResult w (f v)) →
      GoodResult w (match r with | .error h => .error h | .ok v => f v) := by
  intro hs hr hf
  cases r with
  | error h =>
    change MemoryFits w h.mem
    exact hr.mem_eq h rfl ▸ hs.memory
  | ok v => exact hf v rfl

/-- First a step to a good state, then what is done there. -/
theorem GoodResult.after_step {w : Nat} {r : Res State} {f : State → Res State} :
    GoodResult w r → (∀ t, r = .ok t → GoodState w t → GoodResult w (f t)) →
      GoodResult w (match r with | .error h => .error h | .ok t => f t) := by
  intro hr hf
  cases r with
  | error h => exact hr
  | ok t => exact hf t rfl hr

/-- Writing bytes. -/
theorem GoodState.memWrite {w : Nat} {s : State} (h : GoodState w s) (env : Env) (ea : Word) (k : Nat) (v : Word) :
    GoodResult w (memWrite s env ea k v) := by
  have hkeeps := writeBytes_keeps env (MemoryFits w) (toBytes k v) (s := s) (low_low s.w ea) h.memory
    fun m a p x ha hl hm => hm.store (h.locate_lt ha hl) x
  obtain ⟨hok, herror⟩ := hkeeps
  cases hw : Machine.memWrite s env ea k v with
  | error e => exact herror hw
  | ok t =>
    rw [memWrite_ok hw]
    exact h.set_memory (hok hw)

/-- A state that differs in memory and a stack pointer only. -/
theorem StackMoved.goodState {w : Nat} {env : Env} {s t : State} (hmoved : StackMoved env s t) (h : GoodState w s)
    (hm : MemoryFits w t.mem) : GoodState w t := by
  have hsp : (t.sp env).toNat < 2 ^ w := by
    rcases hmoved.fits with hsame | hlow
    · rw [hsame]
      cases env <;> exact h.wide (by simp [State.wideRegisters, State.sp])
    · exact h.width ▸ low_eq_self_iff.1 hlow
  have hspu : t.spu.toNat < 2 ^ w := by
    by_cases he : env = .user
    · subst he; exact hsp
    · exact hmoved.spu he ▸ h.wide (by simp [State.wideRegisters])
  have hsph : t.sph.toNat < 2 ^ w := by
    cases env
    case user => exact hmoved.sph rfl ▸ h.wide (by simp [State.wideRegisters])
    all_goals exact hsp
  have hregisters : GoodState w { s with spu := t.spu, sph := t.sph } :=
    h.set_registers (by simp [State.wideRegisters, hspu, hsph])
  rw [hmoved.eq]
  exact hregisters.set_memory hm

theorem StackMoved.cfg {env : Env} {s t : State} (h : StackMoved env s t) : t.cfg = s.cfg := by rw [h.eq]

theorem StackMoved.run {env : Env} {s t : State} (h : StackMoved env s t) : t.run = s.run := by rw [h.eq]

theorem pull_cfg {s t : State} {env : Env} {k : Nat} {v : Word} (hp : pull s env k = .ok (v, t)) : t.cfg = s.cfg := by
  obtain ⟨-, rfl | ⟨sp, rfl⟩⟩ := pull_ok hp <;> simp

/-- Pushing bytes. -/
theorem GoodState.push {w : Nat} {s : State} (h : GoodState w s) (env : Env) (k : Nat) (v : Word) :
    GoodResult w (push s env k v) := by
  have hkeeps := pushBytes_keeps env (MemoryFits w) (toBytes k v).reverse (s := s) h.memory
    fun m a p x ha hl hm => hm.store (h.locate_lt ha hl) x
  obtain ⟨hok, herror⟩ := hkeeps
  cases hp : Machine.push s env k v with
  | error e => exact herror hp
  | ok t => exact (push_ok hp).goodState h (hok hp)

/-- Pulling bytes. -/
theorem GoodState.pull {w : Nat} {s t : State} (h : GoodState w s) {env : Env} {k : Nat} {v : Word}
    (hp : pull s env k = .ok (v, t)) : GoodState w t := by
  obtain ⟨-, rfl | ⟨sp, rfl⟩⟩ := pull_ok hp
  · exact h
  · exact h.setSp env sp

/-! ### Operations that only read -/

theorem StopsInPlace.good {α : Type} {w : Nat} {s : State} {r : Res α} (hr : StopsInPlace s r) (hs : GoodState w s)
    {e : Halt} (he : r = .error e) : GoodResult w (.error e) := by
  change MemoryFits w e.mem
  exact hr.mem_eq e he ▸ hs.memory

theorem stopsInPlace_ok {α : Type} (s : State) (v : α) : StopsInPlace s (.ok v) := ⟨fun _ h => nomatch h⟩

theorem memRead_stopsInPlace (s : State) (env : Env) (ea : Word) (k : Nat) : StopsInPlace s (memRead s env ea k) :=
  ⟨fun _ => memRead_error⟩

theorem pull_stopsInPlace (s : State) (env : Env) (k : Nat) : StopsInPlace s (pull s env k) :=
  ⟨fun _ => pull_error⟩

/-- Two reads in a row. -/
theorem StopsInPlace.bind {β : Type} {s : State} {r : Res Word} (hr : StopsInPlace s r) {f : Word → Res β}
    (hf : ∀ v, StopsInPlace s (f v)) : StopsInPlace s (match r with | .error h => .error h | .ok v => f v) := by
  cases r with
  | error e => exact ⟨fun h he => by cases he; exact hr.mem_eq e rfl⟩
  | ok v => exact hf v

theorem readPointer_stopsInPlace (env : Env) (f : Format) (p : Pfx) (ia : Word) (s : State) :
    StopsInPlace s (readPointer env f p ia s) := (memRead_stopsInPlace s env ia _).bind fun _ => stopsInPlace_ok s _

theorem effectiveAddress_stopsInPlace (f : Format) (p : Pfx) (op : Word) (s : State) :
    StopsInPlace s (effectiveAddress f p op s) := by
  cases f
  case indZp | indAbs | qindZp | qindAbs | indZpX | indAbsX | qindZpX | qindAbsX => exact readPointer_stopsInPlace ..
  case indZpY | indAbsY | qindZpY | qindAbsY =>
    exact (readPointer_stopsInPlace ..).bind fun _ => stopsInPlace_ok s _
  all_goals exact stopsInPlace_ok s _

theorem sourceOperand_stopsInPlace (f : Format) (p : Pfx) (op : Word) (s : State) :
    StopsInPlace s (sourceOperand f p op s) := by
  unfold sourceOperand
  split
  · exact stopsInPlace_ok s _
  · exact (effectiveAddress_stopsInPlace ..).bind fun _ => memRead_stopsInPlace ..

theorem tableVector_stopsInPlace (s : State) (base addr : Word) : StopsInPlace s (tableVector s base addr) :=
  (memRead_stopsInPlace ..).bind fun _ => stopsInPlace_ok s _

theorem singleVector_stopsInPlace (s : State) (env : Env) (addr : Word) : StopsInPlace s (singleVector s env addr) :=
  (memRead_stopsInPlace ..).bind fun _ => stopsInPlace_ok s _

theorem abortTarget_stopsInPlace (s : State) (k : AbortKind) : StopsInPlace s (abortTarget s k) := by
  unfold abortTarget
  split
  · exact tableVector_stopsInPlace ..
  · exact singleVector_stopsInPlace ..

theorem trapTarget_stopsInPlace (s : State) (t : Word) : StopsInPlace s (trapTarget s t) := by
  unfold trapTarget
  split
  · exact tableVector_stopsInPlace ..
  · exact singleVector_stopsInPlace ..

theorem breakTarget_stopsInPlace (s : State) : StopsInPlace s (breakTarget s) := by
  unfold breakTarget
  split
  · exact tableVector_stopsInPlace ..
  · exact singleVector_stopsInPlace ..

end Sys2Proof.Machine
end

section
/-! Exceptions and interrupts keep a good state (R39, R664, R680, R684, R690). -/

namespace Sys2Proof.Machine

/-! ### Entries -/

/-- The sizes of a frame's address (R682). -/
theorem frameBytes_cases (c : Config) (ret : Word) :
    frameBytes c ret = 2 ∨ c.width = .w64 ∧ frameBytes c ret = 4 ∨ frameBytes c ret = c.width.bytes := by
  unfold frameBytes
  split_ifs with h2 h4
  · exact .inl rfl
  · simp only [Bool.and_eq_true, beq_iff_eq] at h4
    exact .inr (.inl ⟨h4.1.2, rfl⟩)
  · exact .inr (.inr rfl)

/-- The core has the frame size it pushes (R39, R682). -/
theorem frameCode_frameBytes (s : State) (ret : Word) :
    codeBytes (frameCode (frameBytes s.cfg ret)) ≠ 0 ∧ codeBytes (frameCode (frameBytes s.cfg ret)) ≤ s.wBytes := by
  rw [State.wBytes]
  rcases frameBytes_cases s.cfg ret with h | ⟨hw, h⟩ | h
  · rw [h]; cases s.cfg.width <;> decide
  · rw [h, hw]; decide
  · rw [h]; cases s.cfg.width <;> decide

theorem GoodState.enterExtended {w : Nat} {s : State} (h : GoodState w s) (ret : Word) (status : Option Bool) :
    GoodResult w (enterExtended s ret status) := by
  obtain ⟨hne, hle⟩ := frameCode_frameBytes s ret
  have henter : ∀ {t : State}, GoodState w t → GoodState w ((t.setP s.isHyp).setH true).unlink :=
    fun ht => ((ht.setP _).setH _).unlink
  refine ((h.setSf hne hle).push ..).after_step fun s1 _ h1 => (h1.push ..).after_step fun s2 _ h2 => ?_
  cases status with
  | none => exact henter h2
  | some b => exact (h2.push ..).after_step fun s3 _ h3 => henter h3

theorem GoodState.enterCompat {w : Nat} {s : State} (h : GoodState w s) (ret : Word) (b : Bool) :
    GoodResult w (enterCompat s ret b) :=
  (h.push ..).after_step fun _ _ h1 => (h1.push ..).after_step fun _ _ h2 => (h2.setI _).unlink

theorem GoodState.enterAbort {w : Nat} {s : State} (h : GoodState w s) (pcNext : Word) (k : AbortKind) :
    GoodResult w (enterAbort s pcNext k) :=
  (h.enterExtended ..).after_step fun _ _ ht => .after_read ht (abortTarget_stopsInPlace ..) fun v _ => ht.setPc v

/-- An entry sequence leaves the run state alone. -/
theorem enterExtended_run {s t : State} {ret : Word} {status : Option Bool} (h : Machine.enterExtended s ret status = .ok t) :
    t.run = s.run := by
  obtain ⟨u, hmoved, rfl⟩ := enterExtended_ok h
  exact hmoved.run

theorem enterCompat_run {s t : State} {ret : Word} {b : Bool} (h : Machine.enterCompat s ret b = .ok t) : t.run = s.run := by
  obtain ⟨u, hmoved, rfl⟩ := enterCompat_ok h
  exact hmoved.run

theorem GoodState.acknowledge {w : Nat} {s : State} (h : GoodState w s) (k : Nat) : GoodState w (acknowledge s k) :=
  h.set_narrow ..

theorem GoodState.resume {w : Nat} {s : State} (h : GoodState w s) (hs : s.run ≠ .stopped) : GoodState w s.resume :=
  h.set_run hs (by decide)

/-- The entry sequences of a core that is not stopped (R679, R684, R686, R696). -/
theorem GoodState.enterInterrupt {w : Nat} {s : State} (h : GoodState w s) (hs : s.run ≠ .stopped) (k : Nat) :
    GoodResult w (enterInterrupt s k) := by
  unfold Machine.enterInterrupt
  split_ifs
  · refine (h.enterCompat ..).after_step fun t ht hgood => .after_read hgood (memRead_stopsInPlace ..) fun v _ => ?_
    exact (hgood.setPc v).resume (enterCompat_run ht ▸ hs)
  · refine (h.enterExtended ..).after_step fun t ht hgood => .after_read hgood (tableVector_stopsInPlace ..) fun v _ => ?_
    exact ((hgood.acknowledge k).setPc v).resume (enterExtended_run ht ▸ hs)
  · refine (h.enterCompat ..).after_step fun t ht hgood => .after_read hgood (singleVector_stopsInPlace ..) fun v _ => ?_
    exact ((hgood.acknowledge k).setPc v).resume (enterCompat_run ht ▸ hs)

/-- An abort refused inside an entry sequence leaves memory as the abort found it (R667). -/
theorem GoodResult.asEntry {w : Nat} {r : Res State} (h : GoodResult w r) : GoodResult w (asEntry r) := by
  cases r with
  | ok t => exact h
  | error e =>
    change MemoryFits w e.mem at h
    unfold Machine.asEntry
    dsimp only
    split <;> exact h

@[simp] theorem GoodState.takeTrap {w : Nat} {s : State} (h : GoodState w s) (t : Word) : GoodResult w (takeTrap t s) := by
  unfold Machine.takeTrap
  split_ifs
  · refine GoodResult.asEntry ?_
    exact (h.enterExtended ..).after_step fun _ _ hu => .after_read hu (trapTarget_stopsInPlace ..) fun v _ => hu.setPc v
  · exact .of_halt h _

@[simp] theorem GoodState.takeBreak {w : Nat} {s : State} (h : GoodState w s) : GoodResult w (takeBreak s) := by
  refine GoodResult.asEntry (GoodResult.after_step ?_ fun t _ ht =>
    .after_read ht (breakTarget_stopsInPlace t) fun v _ => ht.setPc v)
  split_ifs
  · exact h.enterExtended ..
  · exact h.enterCompat ..

/-! ### Returns -/

theorem pullFrame_stopsInPlace (s : State) (env : Env) : StopsInPlace s (pullFrame s env) := by
  refine ⟨fun h herror => ?_⟩
  unfold pullFrame at herror
  split at herror
  · rename_i hpull; cases herror; exact pull_error hpull
  · rename_i x s1 hpull
    have hmem : s1.mem = s.mem := by obtain ⟨-, rfl | ⟨sp, rfl⟩⟩ := pull_ok hpull <;> simp
    dsimp only at herror
    split_ifs at herror
    · cases herror; rfl
    · cases herror; rfl
    · split at herror
      · rename_i hpull2; cases herror; exact (pull_error hpull2).trans hmem
      · cases herror

theorem GoodState.pullFrame {w : Nat} {s : State} (h : GoodState w s) {env : Env} {f : Frame}
    (hf : pullFrame s env = .ok f) : GoodState w f.after := by
  unfold Machine.pullFrame at hf
  split at hf
  · cases hf
  · rename_i x s1 hpull
    dsimp only at hf
    split_ifs at hf
    · cases hf
    · cases hf
    · split at hf
      · cases hf
      · rename_i a s2 hpull2
        cases hf
        exact (h.pull hpull).pull hpull2

@[simp] theorem GoodState.returnFromTrap {w : Nat} {s : State} (h : GoodState w s) : GoodResult w (returnFromTrap s) := by
  unfold Machine.returnFromTrap
  split
  · rename_i e herror
    exact (pullFrame_stopsInPlace ..).good h herror
  · rename_i f hf
    obtain ⟨hmoved, hne, hle, -⟩ := pullFrame_ok hf
    exact ((((h.pullFrame hf).setH _).setP _).setSf hne (by rwa [State.wBytes, State.setP_cfg, State.setH_cfg, hmoved.cfg])).unlink.setPc _

/-- The state that RTI goes to, from the state after its pulls. -/
theorem GoodState.commitRti {w : Nat} {t : State} (h : GoodState w t) (s : State) (status : Byte) (hbit p : Bool)
    {sf : BitVec 2} (target : Word) (hne : codeBytes sf ≠ 0) (hle : codeBytes sf ≤ t.wBytes) :
    GoodState w (commitRti s t status hbit p sf target) := by
  have hload : GoodState w { t with sr := t.sr.load status } := h.set_flags ..
  have hbase := (hload.setSf hne hle).setEim (if s.isHyp then s.imr else t.eim)
  exact (((hbase.setH _).setP _).unlink).setPc _

@[simp] theorem GoodState.returnFromInterrupt {w : Nat} {s : State} (h : GoodState w s) : GoodResult w (returnFromInterrupt s) := by
  unfold Machine.returnFromInterrupt
  split
  · rename_i e herror
    exact (pull_stopsInPlace ..).good h herror
  · rename_i x s1 h1
    have hgood1 := h.pull h1
    split_ifs
    · split
      · rename_i e herror
        exact (pull_stopsInPlace ..).good hgood1 herror
      · rename_i a s2 h2
        obtain ⟨hne, hle, -⟩ := (statusOk_iff s).1 h.status
        exact (hgood1.pull h2).commitRti s _ _ _ _ hne (by rwa [State.wBytes, pull_cfg h2, pull_cfg h1])
    · split
      · rename_i e herror
        exact (pullFrame_stopsInPlace ..).good hgood1 herror
      · rename_i f hf
        obtain ⟨hmoved, hne, hle, -⟩ := pullFrame_ok hf
        exact (hgood1.pullFrame hf).commitRti s _ _ _ _ hne (by rwa [State.wBytes, hmoved.cfg])

end Sys2Proof.Machine
end

section
/-! Every instruction's meaning keeps a good state, group by group in the order of the model's files. -/

namespace Sys2Proof.Machine

/-! ### Flags and widths -/

theorem GoodState.setNZ {w : Nat} {s : State} (h : GoodState w s) (fw : Nat) (r : Word) : GoodState w (setNZ fw r s) :=
  h.set_flags ..

theorem GoodState.setC {w : Nat} {s : State} (h : GoodState w s) (c : Bool) : GoodState w (setC c s) := h.set_flags ..

theorem GoodState.setV {w : Nat} {s : State} (h : GoodState w s) (v : Bool) : GoodState w (setV v s) := h.set_flags ..

theorem GoodState.setZ {w : Nat} {s : State} (h : GoodState w s) (z : Bool) : GoodState w (setZ z s) := h.set_flags ..

theorem GoodState.setNVZC {w : Nat} {s : State} (h : GoodState w s) (fw : Nat) (q : Sum) : GoodState w (setNVZC fw q s) :=
  h.set_flags ..

theorem GoodState.setCompare {w : Nat} {s : State} (h : GoodState w s) (fw : Nat) (a b : Word) :
    GoodState w (setCompare fw a b s) := by
  unfold Machine.setCompare
  dsimp only
  split
  · exact h.set_flags ..
  · exact h.set_flags ..

theorem GoodState.setFlags {w : Nat} {s : State} (h : GoodState w s) (k : Step1) (n : Nat) (vc : Word × Bool) :
    GoodState w (k.setFlags n vc s) := by
  unfold Step1.setFlags
  split
  · exact h.set_flags ..
  · exact h.set_flags ..

/-- NF only leaves the flags as they were (R259). -/
theorem GoodState.unlessNf {w : Nat} {s : State} (h : GoodState w s) {p : Pfx} {f : State → State}
    (hf : GoodState w (f s)) : GoodState w (unlessNf p f s) := by
  unfold Machine.unlessNf
  split
  · exact h
  · exact hf

@[simp] theorem GoodState.withWidth {w : Nat} {s : State} (h : GoodState w s) {p : Pfx} {body : State → Res State}
    (hbody : GoodResult w (body s)) : GoodResult w (withWidth p body s) := by
  unfold Machine.withWidth
  split
  · exact .of_halt h _
  · exact hbody

section Bodies

variable {w : Nat} {s : State} (h : GoodState w s) (p : Pfx) (f : Format) (op v : Word)
include h

/-! ### Accumulator operations and address arithmetic -/

@[simp] theorem GoodState.negateBody : GoodResult w (negateBody p s) := by
  unfold Machine.negateBody
  split
  · exact (h.setReg ..).unlessNf ((h.setReg ..).setNZ ..)
  · exact (h.setReg ..).unlessNf ((h.setReg ..).setNZ ..)

@[simp] theorem GoodState.extendBody : GoodResult w (extendBody p s) := by
  unfold Machine.extendBody
  split
  · exact h.unlessNf (h.setNZ ..)
  · exact (h.setReg ..).unlessNf ((h.setReg ..).setNZ ..)

theorem GoodState.replaceLow : GoodState w (replaceLow p v s) := (h.setReg ..).unlessNf ((h.setReg ..).setNZ ..)

@[simp] theorem GoodState.swapBytesBody : GoodResult w (swapBytesBody p s) := h.replaceLow ..

@[simp] theorem GoodState.countBody : GoodResult w (countBody p s) := h.replaceLow ..

@[simp] theorem GoodState.countMemBody : GoodResult w (countMemBody p s) :=
  .after_read h (memRead_stopsInPlace ..) fun _ _ => h.replaceLow ..

@[simp] theorem GoodState.addrBody (r : Reg) (imm sub : Bool) : GoodResult w (addrBody r imm sub p v s) :=
  (h.setReg ..).unlessNf ((h.setReg ..).setNVZC ..)

@[simp] theorem GoodState.stackAddrBody (imm sub : Bool) : GoodResult w (stackAddrBody imm sub p v s) :=
  (h.setSp ..).unlessNf ((h.setSp ..).setNVZC ..)

@[simp] theorem GoodState.leaBody : GoodResult w (leaBody f p op s) :=
  .after_read h (effectiveAddress_stopsInPlace ..) fun _ _ => (h.setReg ..).unlessNf ((h.setReg ..).setNZ ..)

@[simp] theorem GoodState.peaBody : GoodResult w (peaBody f p op s) :=
  .after_read h (effectiveAddress_stopsInPlace ..) fun _ _ => h.push ..

/-! ### Arithmetic, logic, compares -/

@[simp] theorem GoodState.logicBody (g : Word → Word → Word) : GoodResult w (logicBody g f p op s) :=
  .after_read h (sourceOperand_stopsInPlace ..) fun _ _ => (h.setReg ..).unlessNf ((h.setReg ..).setNZ ..)

@[simp] theorem GoodState.addBody (sub : Bool) : GoodResult w (addBody sub f p op s) := by
  unfold Machine.addBody
  split
  · exact .of_halt h _
  · exact .after_read h (sourceOperand_stopsInPlace ..) fun _ _ => (h.setReg ..).unlessNf ((h.setReg ..).setNVZC ..)

@[simp] theorem GoodState.compareBody (r : Reg) : GoodResult w (compareBody r f p op s) :=
  .after_read h (sourceOperand_stopsInPlace ..) fun _ _ => h.setCompare ..

@[simp] theorem GoodState.bitBody : GoodResult w (bitBody f p op s) := by
  refine .after_read h (sourceOperand_stopsInPlace ..) fun m _ => h.unlessNf ?_
  dsimp only
  split
  · exact h.setZ _
  · exact h.set_flags ..

@[simp] theorem GoodState.bitAccum : GoodResult w (bitAccum p s) := h.unlessNf (h.set_flags ..)

/-! ### Block instructions -/

@[simp] theorem GoodState.moveByte (src dst : Env) : GoodResult w (moveByte src dst v s) :=
  .after_read h (memRead_stopsInPlace ..) fun _ _ => (h.memWrite ..).after_step fun _ _ ht => (ht.setReg ..).setReg ..

@[simp] theorem GoodState.fillElement (env : Env) (nb : Nat) : GoodResult w (fillElement env nb s) :=
  (h.memWrite ..).after_step fun _ _ ht => ht.setReg ..

@[simp] theorem GoodState.blockStep (start dec : Word) {body : State → Res State} (hbody : GoodResult w (body s)) :
    GoodResult w (blockStep start dec body s) := by
  unfold Machine.blockStep
  split
  · exact h
  · refine hbody.after_step fun t _ ht => ?_
    dsimp only
    split
    · exact ht.setReg ..
    · exact (ht.setReg ..).setPc _

@[simp] theorem GoodState.fillBody (start : Word) : GoodResult w (fillBody start p s) := by
  unfold Machine.fillBody
  split
  · exact h.blockStep _ _ (h.fillElement ..)
  · split
    · exact h.blockStep _ _ (h.fillElement ..)
    · exact .of_halt h _

/-! ### Control transfer -/

@[simp] theorem GoodState.branchBody (taken : Bool) : GoodResult w (branchBody taken p op s) := by
  unfold Machine.branchBody
  split
  · exact h.setPc _
  · exact h

@[simp] theorem GoodState.jumpBody : GoodResult w (jumpBody f p op s) :=
  .after_read h (effectiveAddress_stopsInPlace ..) fun _ _ => h.setPc _

theorem GoodState.callTo {target : Res Word} (htarget : StopsInPlace s target) : GoodResult w (callTo p target s) := by
  unfold Machine.callTo
  split
  · exact .of_halt h _
  · exact .after_read h htarget fun _ _ => (h.push ..).after_step fun _ _ ht => ht.setPc _

@[simp] theorem GoodState.callBody : GoodResult w (callBody f p op s) := h.callTo p (effectiveAddress_stopsInPlace ..)

@[simp] theorem GoodState.branchCallBody : GoodResult w (branchCallBody f p op s) := h.callTo p (stopsInPlace_ok ..)

@[simp] theorem GoodState.returnBody : GoodResult w (returnBody p s) := by
  unfold Machine.returnBody
  split
  · exact .of_halt h _
  · split
    · rename_i e herror
      exact (pull_stopsInPlace ..).good h herror
    · rename_i ra t hpull
      exact (h.pull hpull).setPc _

/-! ### Status, load linked, loads and transfers -/

/-- An instruction that only writes the flags `D, I, V, C` (R380 to R387). -/
theorem GoodState.statusBody {g : Status → Status}
    (hg : ∀ q, g q = { q with d := (g q).d, i := (g q).i, v := (g q).v, c := (g q).c }) : GoodResult w (statusBody g s) := by
  change GoodState w { s with sr := g s.sr }
  rw [hg]
  exact h.set_flags ..

@[simp] theorem GoodState.barrierBody : GoodResult w (barrierBody s) := h

@[simp] theorem GoodState.loadLinkedBody : GoodResult w (loadLinkedBody p s) := by
  refine .after_read h (memRead_stopsInPlace ..) fun m _ => ?_
  have hlinked : ∀ l, GoodState w { s.setReg .a (loadInto (opBits p) s.w (p.extension .zero) s.a m) with link := l } :=
    fun l => (h.setReg ..).set_narrow ..
  exact (hlinked _).unlessNf ((hlinked _).setNZ ..)

@[simp] theorem GoodState.storeConditionalBody : GoodResult w (storeConditionalBody p s) := by
  unfold Machine.storeConditionalBody
  split
  · exact (h.memWrite ..).after_step fun _ _ ht => (ht.setV _).unlink
  · exact (h.setV _).unlink

@[simp] theorem GoodState.loadBody (r : Reg) : GoodResult w (loadBody r f p op s) :=
  .after_read h (sourceOperand_stopsInPlace ..) fun _ _ => (h.setReg ..).unlessNf ((h.setReg ..).setNZ ..)

@[simp] theorem GoodState.transferBody (r : Reg) : GoodResult w (transferBody r p v s) :=
  (h.setReg ..).unlessNf ((h.setReg ..).setNZ ..)

@[simp] theorem GoodState.toStackBody : GoodResult w (toStackBody p v s) := h.setSp ..

@[simp] theorem GoodState.wholeTransfer (r : Reg) : GoodResult w (wholeTransfer r p v s) :=
  (h.setReg ..).unlessNf ((h.setReg ..).setNZ ..)

@[simp] theorem GoodState.swapBody (q r : Reg) : GoodResult w (swapBody q r s) := (h.setReg ..).setReg ..

/-! ### Read-modify-write -/

@[simp] theorem GoodState.quickRegBody (k : Step1) (r : Reg) (cnt : BitVec 3) : GoodResult w (quickRegBody k r p cnt s) :=
  (h.setReg ..).unlessNf ((h.setReg ..).setFlags ..)

@[simp] theorem GoodState.quickMemBody (k : Step1) (cnt : BitVec 3) : GoodResult w (quickMemBody k f p op cnt s) :=
  .after_read h (effectiveAddress_stopsInPlace ..) fun _ _ => .after_read h (memRead_stopsInPlace ..) fun _ _ =>
    (h.memWrite ..).after_step fun _ _ ht => ht.unlessNf (ht.setFlags ..)

@[simp] theorem GoodState.modifyBody (k : Step1) : GoodResult w (modifyBody k f p op s) :=
  .after_read h (effectiveAddress_stopsInPlace ..) fun _ _ => .after_read h (memRead_stopsInPlace ..) fun _ _ =>
    (h.memWrite ..).after_step fun _ _ ht => ht.unlessNf (ht.setFlags ..)

@[simp] theorem GoodState.stepBody (k : Step1) (r : Reg) : GoodResult w (stepBody k r p s) :=
  (h.setReg ..).unlessNf ((h.setReg ..).setFlags ..)

@[simp] theorem GoodState.testBody (setBits : Bool) : GoodResult w (testBody setBits f p op s) :=
  .after_read h (effectiveAddress_stopsInPlace ..) fun _ _ => .after_read h (memRead_stopsInPlace ..) fun _ _ =>
    (h.memWrite ..).after_step fun _ _ ht => ht.unlessNf (ht.setZ _)

/-! ### Stack and stores -/

@[simp] theorem GoodState.pushBody : GoodResult w (pushBody p v s) := h.push ..

@[simp] theorem GoodState.pushWhole : GoodResult w (pushWhole p v s) := h.push ..

@[simp] theorem GoodState.pullBody (r : Reg) : GoodResult w (pullBody r p s) := by
  unfold Machine.pullBody
  split
  · rename_i e herror
    exact (pull_stopsInPlace ..).good h herror
  · rename_i m t hpull
    exact ((h.pull hpull).setReg ..).unlessNf (((h.pull hpull).setReg ..).setNZ ..)

@[simp] theorem GoodState.pullWhole (r : Reg) : GoodResult w (pullWhole r p s) := by
  unfold Machine.pullWhole
  split
  · rename_i e herror
    exact (pull_stopsInPlace ..).good h herror
  · rename_i m t hpull
    exact ((h.pull hpull).setReg ..).unlessNf (((h.pull hpull).setReg ..).setNZ ..)

@[simp] theorem GoodState.pushStatus : GoodResult w (pushStatus s) := h.push ..

@[simp] theorem GoodState.pullStatus : GoodResult w (pullStatus s) := by
  unfold Machine.pullStatus
  split
  · rename_i e herror
    exact (pull_stopsInPlace ..).good h herror
  · rename_i m t hpull
    exact (h.pull hpull).set_flags ..

@[simp] theorem GoodState.pushReplaceBase : GoodResult w (pushReplaceBase p s) :=
  (h.push ..).after_step fun _ _ ht => (ht.setReg ..).unlessNf ((ht.setReg ..).setNZ ..)

@[simp] theorem GoodState.storeBody : GoodResult w (storeBody f p op v s) :=
  .after_read h (effectiveAddress_stopsInPlace ..) fun _ _ => h.memWrite ..

end Bodies

end Sys2Proof.Machine
end

section
/-! System instructions, every instruction, and the step keep a good state. -/

namespace Sys2Proof.Machine

/-! ### Configuration registers -/

/-- A write of MC_ACTCORE by the core itself keeps its own bit (R53). -/
theorem GoodState.newActCore {w : Nat} {s : State} (h : GoodState w s) (v : Word) :
    GoodState w { s with actCore := newActCore s s.cfg.myCore v } := by
  have hact : s.actCore.toNat < 2 ^ w := h.wide (by simp [State.wideRegisters])
  refine h.set_actCore ?_ ?_
  · rw [Machine.newActCore, BitVec.toNat_or]
    refine Nat.or_lt_two_pow ?_ ?_
    · rw [BitVec.toNat_and]
      exact Nat.lt_of_le_of_lt Nat.and_le_left hact
    · rw [BitVec.toNat_and, BitVec.toNat_and]
      exact Nat.lt_of_le_of_lt (Nat.le_trans Nat.and_le_left Nat.and_le_left) (h.width ▸ low_lt _ _)
  · rcases (activityOk_iff s).1 h.activity with hnone | hbit
    · exact .inl hnone
    · by_cases hown : s.cfg.myCore < s.w
      · rw [newActCore_getLsbD _ _ _ hown, if_pos rfl]
        exact .inr hbit
      · exact .inl (Nat.le_of_not_lt hown)

theorem GoodState.aligned {w : Nat} {s : State} (h : GoodState w s) : low 8 s.iv = 0 ∧ low 8 s.av = 0 ∧ low 9 s.tv = 0 :=
  ((registersOk_iff s).1 h.registers).2.2

/-- Truncating to `W` bits does not change the low bits that fit in any `W`. -/
theorem low_low_of_le {n w : Nat} (h : n ≤ w) (v : Word) : low n (low w v) = low n v := by
  apply BitVec.eq_of_toNat_eq
  rw [low_toNat, low_toNat, low_toNat, Nat.mod_mod_of_dvd _ (Nat.pow_dvd_pow 2 h)]

theorem State.w_ge (s : State) : 16 ≤ s.w := by
  unfold State.w
  cases s.cfg.width <;> decide

theorem GoodState.writeConfig {w : Nat} {s t : State} (h : GoodState w s) {r : Byte} {v : Word}
    (hw : writeConfig s r v = .ok t) : GoodState w t := by
  obtain ⟨hiv, hav, htv⟩ := h.aligned
  have h16 := s.w_ge
  have hlow : (low s.w v).toNat < 2 ^ w := h.width ▸ low_lt _ _
  have hold : ∀ u ∈ [s.iv, s.av, s.tv, s.tmv], u.toNat < 2 ^ w := fun u hu => h.wide (by
    simp only [State.wideRegisters, List.mem_cons, List.not_mem_nil, or_false] at hu ⊢
    grind)
  simp only [List.forall_mem_cons] at hold
  obtain ⟨hivw, havw, htvw, htmvw, -⟩ := hold
  unfold Machine.writeConfig at hw
  split_ifs at hw with _ _ _ _ _ _ _ h20 _ h21 _ h22
  all_goals cases hw
  · exact h.newActCore v
  · exact h.set_narrow ..
  · exact h.set_narrow ..
  · exact h.set_narrow ..
  · exact h.set_bases _ _ _ (by simp [*, -low_toNat]) ((low_low_of_le (by omega) v).trans h20) hav htv
  · exact h.set_bases _ _ _ (by simp [*, -low_toNat]) hiv ((low_low_of_le (by omega) v).trans h21) htv
  · exact h.set_bases _ _ _ (by simp [*, -low_toNat]) hiv hav ((low_low_of_le (by omega) v).trans h22)
  · exact h.set_bases _ _ _ (by simp [*, -low_toNat]) hiv hav htv

/-! ### System instructions -/

section Bodies

variable {w : Nat} {s : State} (h : GoodState w s) (p : Pfx) (op : Word)
include h

@[simp] theorem GoodState.loadConfigBody : GoodResult w (loadConfigBody op s) := by
  unfold Machine.loadConfigBody
  cases readConfig s (op.setWidth 8) with
  | error r => exact .of_halt h _
  | ok v => exact (h.setReg ..).setNZ ..

@[simp] theorem GoodState.testConfigBody : GoodResult w (testConfigBody op s) := by
  unfold Machine.testConfigBody
  cases readConfig s (op.setWidth 8) with
  | error r => exact .of_halt h _
  | ok v => exact h.set_flags ..

@[simp] theorem GoodState.storeConfigBody : GoodResult w (storeConfigBody op s) := by
  unfold Machine.storeConfigBody
  cases hw : Machine.writeConfig s (op.setWidth 8) s.a with
  | error r => exact .of_halt h _
  | ok t => exact h.writeConfig hw

@[simp] theorem GoodState.setContainerBody : GoodResult w (setContainerBody op s) := by
  unfold Machine.setContainerBody containerIndex
  dsimp only
  split_ifs
  · exact .of_halt h _
  · refine h.set_container _ ?_ ?_ ?_ <;> exact h.wide (by simp [State.wideRegisters])

@[simp] theorem GoodState.loadContainerBody : GoodResult w (loadContainerBody op s) := by
  have hbits : 8 * s.wBytes = w := by
    rw [← h.width, State.wBytes, State.w]
    cases s.cfg.width <;> rfl
  unfold Machine.loadContainerBody containerIndex
  dsimp only
  split_ifs
  · exact .of_halt h _
  · refine .after_read h (memRead_stopsInPlace ..) fun m hm => .after_read h (memRead_stopsInPlace ..) fun c hc =>
      .after_read h (memRead_stopsInPlace ..) fun o ho => ?_
    exact h.set_container _ (hbits ▸ memRead_lt hm) (hbits ▸ memRead_lt hc) (hbits ▸ memRead_lt ho)

@[simp] theorem GoodState.enterUserBody : GoodResult w (enterUserBody p op s) := by
  unfold Machine.enterUserBody
  split
  · exact .of_halt h _
  · have hread := effectiveAddress_stopsInPlace .abs p op s
    generalize effectiveAddress .abs p op s = r at hread ⊢
    exact .after_read h hread fun _ _ => (h.setH false).setPc _

@[simp] theorem GoodState.enterUserIndirectBody : GoodResult w (enterUserIndirectBody p op s) := by
  unfold Machine.enterUserIndirectBody
  split
  · exact .of_halt h _
  · exact .after_read (h.setH _) (readPointer_stopsInPlace ..) fun _ _ => (h.setH false).setPc _

@[simp] theorem GoodState.refuse (r : Refusal) : GoodResult w (refuse s r) := .of_halt h _

@[simp] theorem GoodState.clearEimBody : GoodResult w (clearEimBody s) := h.setEim _

@[simp] theorem GoodState.waitBody (hs : s.run ≠ .stopped) : GoodResult w (waitBody s) := h.set_run hs (by decide)

@[simp] theorem GoodState.stopBody : GoodResult w (stopBody s) := h.stopCore

end Bodies

/-! ### Every instruction -/

/-- `answer` is what performing some body answers, its aborts taken from `s` or, for JPU (abs), from `s` with `H` cleared. -/
structure Performs (s : State) (answer : Answer) (body : State → Res State) : Prop where
  eq : ∃ undo page f p, (undo = s ∨ undo = s.setH false) ∧ answer = performFrom undo page f p s body

/-- Every instruction performs a body that keeps a good state. -/
theorem exec_performs (i : Instr) (s : State) : ∃ body, Performs s (exec i s) body ∧
    ∀ w u, GoodState w u → u.run ≠ .stopped → GoodResult w (body u) := by
  cases i
  case smmu p => exact ⟨fun t => refuse t .mmuBaseUndefined, ⟨_, _, _, _, .inl rfl, rfl⟩, fun w u h hs => h.refuse _⟩
  case jpuIndAbs p op => exact ⟨_, ⟨_, _, _, _, .inr rfl, rfl⟩, fun w u h hs => by simp [h]⟩
  case clc | sec | cli | sei | clv | cld | nop | sed =>
    exact ⟨_, ⟨_, _, _, _, .inl rfl, rfl⟩, fun w u h hs => h.statusBody fun _ => rfl⟩
  all_goals exact ⟨_, ⟨_, _, _, _, .inl rfl, rfl⟩, fun w u h hs => by simp [h, hs]⟩

/-- An instruction whose body keeps a good state gives a good next state. -/
theorem GoodState.performs {w : Nat} {s t : State} (h : GoodState w s) (hs : s.run ≠ .stopped) {body : State → Res State}
    (hp : Performs s (.next t) body)
    (hbody : ∀ w u, GoodState w u → u.run ≠ .stopped → GoodResult w (body u)) : GoodState w t := by
  obtain ⟨undo, page, f, p, hundo, heq⟩ := hp.eq
  have hresult := hbody w _ (h.setPc (s.pc + BitVec.ofNat 64 (instrBytes page f p))) hs
  have hgood : GoodState w undo := by
    rcases hundo with rfl | rfl
    · exact h
    · exact h.setH _
  rcases performFrom_next heq.symm with hok | ⟨k, m, hm, hentry⟩
  · exact hresult.of_ok hok
  · have hfits : MemoryFits w m := by
      rcases hm with rfl | ⟨e, herror, rfl⟩
      · exact h.memory
      · rw [herror] at hresult
        exact hresult
    exact ((hgood.set_memory hfits).enterAbort ..).of_ok hentry

theorem GoodState.exec {w : Nat} {s t : State} (h : GoodState w s) (hs : s.run ≠ .stopped) {i : Instr}
    (hexec : exec i s = .next t) : GoodState w t := by
  obtain ⟨body, hperforms, hbody⟩ := exec_performs i s
  exact h.performs hs (hexec ▸ hperforms) hbody

/-! ### The step -/

theorem answer_next {r : Res State} {t : State} (h : answer r = .next t) : r = .ok t := by
  unfold answer at h
  split at h
  · cases h; rfl
  · split at h <;> cases h

theorem fetchStop_next {s t : State} {len : Nat} {x : Option Stop} (h : fetchStop s len x = .next t) :
    ∃ pcNext k, abortAnswer s pcNext k s.mem = .next t := by
  unfold fetchStop at h
  split at h
  · exact ⟨_, _, h⟩
  all_goals cases h

/-- Where no instruction is found, the step goes on only into an abort (R663). -/
theorem fetchFailure_next {s t : State} {b : List Byte × Option Stop} {e : DecodeError} (h : fetchFailure s b e = .next t) :
    ∃ pcNext k, abortAnswer s pcNext k s.mem = .next t := by
  unfold fetchFailure at h
  split at h
  · exact fetchStop_next h
  · split at h
    · split at h
      · exact ⟨_, _, h⟩
      · cases h
    · dsimp only at h
      split_ifs at h
      · exact ⟨_, _, h⟩
      · exact fetchStop_next h

/-- All that a step can do: nothing, enter an interrupt, run an instruction, or enter the abort of a fetch (R12). -/
theorem step_next {s t : State} (h : step s = .next t) : t = s ∨ s.run ≠ .stopped ∧
    ((∃ k, enterInterrupt s k = .ok t) ∨ (∃ i, exec i s = .next t) ∨ ∃ pcNext k, enterAbort s pcNext k = .ok t) := by
  unfold step at h
  split at h
  · cases h
  · split at h
    · cases h
      exact .inl rfl
    · rename_i hstopped
      split at h
      · rename_i k _
        exact .inr ⟨hstopped, .inl ⟨k, answer_next h⟩⟩
      · split at h
        · cases h
          exact .inl rfl
        · split at h
          · rename_i i _
            exact .inr ⟨hstopped, .inr (.inl ⟨i, h⟩)⟩
          · rename_i a hfetch
            subst h
            unfold fetchInstr at hfetch
            split at hfetch
            · cases hfetch
            · injection hfetch with hfailure
              obtain ⟨pcNext, k, habort⟩ := fetchFailure_next hfailure
              exact .inr ⟨hstopped, .inr (.inr ⟨pcNext, k, answer_next habort⟩)⟩

theorem GoodState.step {w : Nat} {s t : State} (h : GoodState w s) (hstep : step s = .next t) : GoodState w t := by
  obtain rfl | ⟨hs, ⟨k, hentry⟩ | ⟨i, hexec⟩ | ⟨pcNext, k, hentry⟩⟩ := step_next hstep
  · exact h
  · exact (h.enterInterrupt hs k).of_ok hentry
  · exact h.exec hs hexec
  · exact (h.enterAbort pcNext k).of_ok hentry

/-- Settles O8: each clause of well-formedness is kept by every operation on the state, so by every instruction's body, by
every entry sequence, and by the step. -/
theorem stepKeepsTheStateWellFormed : Obligations.StepKeepsTheStateWellFormed :=
  fun _ _ hwf hstep => ((GoodState.of_wellFormed hwf).step hstep).wellFormed

end Sys2Proof.Machine
end

section
/-! Which interrupt a step accepts (R43, R675, R716, R717). -/

namespace Sys2Proof.Machine

/-- With no active line among those looked at there is no lowest one. -/
theorem lowestLine_eq_zero {lines : Byte} : ∀ {n k : Nat}, (∀ j, k ≤ j → j < k + n → lines.getLsbD j = false) →
    lowestLine lines n k = 0
  | 0, _, _ => rfl
  | n + 1, k, h => by
    rw [lowestLine, h k (Nat.le_refl k) (by omega), if_neg (by decide)]
    exact lowestLine_eq_zero fun j hj hlt => h j (by omega) (by omega)

/-- The lowest active line. -/
theorem lowestLine_eq {lines : Byte} {m : Nat} (hm : lines.getLsbD m = true) : ∀ {n k : Nat}, k ≤ m → m < k + n →
    (∀ j, k ≤ j → j < m → lines.getLsbD j = false) → lowestLine lines n k = m
  | 0, _, hk, hlt, _ => absurd hlt (by omega)
  | n + 1, k, hk, hlt, h => by
    rw [lowestLine]
    by_cases hkm : k = m
    · rw [hkm, hm, if_pos rfl]
    · rw [h k (Nat.le_refl k) (by omega), if_neg (by decide)]
      exact lowestLine_eq hm (by omega) (by omega) fun j hj hjm => h j (by omega) hjm

theorem isr_eq_zero {s : State} (h : ∀ j, 1 ≤ j → j ≤ s.cfg.nirq → s.irqLine.getLsbD j = false) : s.isr = 0 :=
  lowestLine_eq_zero fun j hj hlt => h j hj (by omega)

theorem isr_eq {s : State} {k : Nat} (h1 : 1 ≤ k) (hk : k ≤ s.cfg.nirq) (hactive : s.irqLine.getLsbD k = true)
    (hlower : ∀ j, 1 ≤ j → j < k → s.irqLine.getLsbD j = false) : s.isr = k :=
  lowestLine_eq hactive h1 (by omega) hlower

theorem step_of_stopped {s : State} (hcore : s.cfg.ncore = 1) (h : s.run = .stopped) : step s = .next s := by
  simp [step, hcore, h]

theorem step_of_accepted {s : State} {k : Nat} (hcore : s.cfg.ncore = 1) (hrun : s.run ≠ .stopped)
    (h : acceptedInterrupt s = some k) : step s = answer (enterInterrupt s k) := by
  simp [step, hcore, hrun, h]

theorem step_of_waiting {s : State} (hcore : s.cfg.ncore = 1) (hrun : s.run = .waiting)
    (h : acceptedInterrupt s = none) : step s = .next s := by
  simp [step, hcore, hrun, h]

/-- Settles O10: the outcome of the step follows the acceptance test, which looks at `ISR`, the lowest active line. -/
theorem interruptsAreAcceptedAtTheBoundary : Obligations.InterruptsAreAcceptedAtTheBoundary := by
  intro s hcore
  refine ⟨step_of_stopped hcore, fun hrun hnmi => ?_, fun k h1 hk hactive hlower hrun hnmi => ⟨fun hle hi => ?_, ?_⟩, ?_⟩
  · exact step_of_accepted hcore hrun (by simp [acceptedInterrupt, hnmi])
  · have hisr := isr_eq h1 hk hactive hlower
    have hne : k ≠ 0 := by omega
    exact step_of_accepted hcore hrun (by simp [acceptedInterrupt, hnmi, hisr, hle, hi, hne])
  · intro hmasked hwait
    have hisr := isr_eq h1 hk hactive hlower
    refine step_of_waiting hcore hwait ?_
    rcases hmasked with hlt | hi
    · simp [acceptedInterrupt, hnmi, hisr, Nat.not_le_of_lt hlt]
    · simp [acceptedInterrupt, hnmi, hi]
  · intro hnone hwait hnmi
    exact step_of_waiting hcore hwait (by simp [acceptedInterrupt, hnmi, isr_eq_zero hnone])

end Sys2Proof.Machine
end

section
/-! Running an instruction that the mode and the options allow (R300, R663, R701, R703). -/

namespace Sys2Proof.Machine

open Sys2Proof.Claims

/-- `body` is what performing `i` runs. -/
def HasBody (i : Instr) (s : State) (body : State → Res State) : Prop :=
  exec i s = perform i.view.row.page i.view.row.format i.view.pfx s body

variable {i : Instr} {s t : State} {body : State → Res State} (hi : HasBody i s body) (hp : permitted i s = true)
include hi hp

/-- A permitted instruction runs its body after the fetch. -/
theorem exec_eq_finish : exec i s =
    finish s (s.pc + BitVec.ofNat 64 (instrBytes i.view.row.page i.view.row.format i.view.pfx)) (body (past i s)) := by
  simp only [permitted, Bool.and_eq_true, Bool.or_eq_true, bne_iff_ne, Bool.not_eq_true'] at hp
  obtain ⟨hmode, hoption⟩ := hp
  have h1 : ¬ ((i.view.row.page = .sys ∨ i.view.pfx.um = true) ∧ s.isHyp = false) := by grind
  have h2 : ¬ (i.view.pfx.um = true ∧ s.cfg.hyp = false) := by grind
  rw [hi, perform, performFrom, if_neg h1, if_neg h2, past]

theorem exec_eq_next (hbody : body (past i s) = .ok t) : exec i s = .next t := by
  rw [exec_eq_finish hi hp, hbody, finish]

theorem exec_eq_refused {r : Refusal} (hbody : body (past i s) = refuse (past i s) r) : exec i s = .refused r := by
  rw [exec_eq_finish hi hp, hbody]
  rfl

/-- An abort is taken from the state before the instruction (R664). -/
theorem exec_eq_abort {k : AbortKind} (hbody : body (past i s) = halt (past i s) (.abort k)) :
    exec i s = answer (enterAbort s (past i s).pc k) := by
  have hnext : ∀ v : Word, enterAbort s (low s.w v) k = enterAbort s v k := fun v => by simp [enterAbort]
  rw [exec_eq_finish hi hp, hbody]
  exact congrArg answer (hnext _).symm

end Sys2Proof.Machine
end

section
/-! CLEIM, WAI and STP (R627, R636, R637). -/

namespace Sys2Proof.Machine

open Sys2Proof.Claims

/-- Settles O47: each body is one update of the state after the fetch; STP's is a mask of MC_ACTCORE. -/
theorem cleimWaiAndStp : Obligations.CleimWaiAndStp := by
  intro p s
  have hcleim : HasBody (.cleim p) s clearEimBody := rfl
  have hwai : HasBody (.wai p) s waitBody := rfl
  have hstp : HasBody (.stp p) s stopBody := rfl
  refine ⟨fun hp => exec_eq_next hcleim hp rfl, fun hp => exec_eq_next hwai hp rfl,
    fun hp => ⟨_, exec_eq_next hstp hp rfl, fun j => ?_⟩⟩
  change (s.actCore &&& ~~~coreBit s.cfg.myCore).getLsbD j = _
  by_cases hj : j < 64
  · simp only [BitVec.getLsbD_and, BitVec.getLsbD_not, coreBit_getLsbD, hj, decide_true, Bool.true_and, decide_not]
  · simp [BitVec.getLsbD_of_ge, Nat.le_of_not_lt hj]

end Sys2Proof.Machine
end

section
/-! What LCR and BCR read, and what SCR writes (R50 to R66, R620 to R622). -/

namespace Sys2Proof.Machine

open Sys2Proof.Claims

/-! ### Words as numbers -/

theorem word_toNat_eq (v : Word) : word v.toNat = v := by simp [word]

theorem toNat_word_of_lt {w v : Nat} (hw : w ≤ 64) (h : v < 2 ^ w) : (word v).toNat = v := by
  have h64 : v < 2 ^ 64 := Nat.lt_of_lt_of_le h (Nat.pow_le_pow_right (by decide) hw)
  simp only [word, BitVec.toNat_ofNat]
  exact Nat.mod_eq_of_lt h64

/-- A number truncated to `W` bits. -/
theorem low_ofNat (w n : Nat) (hw : w ≤ 64) : low w (BitVec.ofNat 64 n) = word (n % 2 ^ w) := by
  have hlt : n % 2 ^ w < 2 ^ w := Nat.mod_lt _ (Nat.two_pow_pos w)
  apply BitVec.eq_of_toNat_eq
  rw [toNat_word_of_lt hw hlt, low_toNat, BitVec.toNat_ofNat, Nat.mod_mod_of_dvd _ (Nat.pow_dvd_pow 2 hw)]

theorem setWidth_eq_word {n : Nat} (hn : n ≤ 64) (v : BitVec n) : v.setWidth 64 = word v.toNat := by
  apply BitVec.eq_of_toNat_eq
  rw [toNat_word_of_lt hn v.isLt, BitVec.toNat_setWidth_of_le hn]

/-- The status byte as a number (R28). -/
theorem statusByte_toNat (r : Status) (b5 b4 : Bool) : (statusByte r b5 b4).toNat = statusNumber r b5 b4 := by
  obtain ⟨n, v, d, i, z, c, -, -, -⟩ := r
  simp only [statusByte, statusNumber]
  revert n v d i z c b5 b4
  decide

/-- The extended status byte as a number (R28, R680). -/
theorem extendedByte_toNat (h p : Bool) (sf : BitVec 2) : (extendedByte h p sf).toNat = extendedNumber h p sf := by
  revert h p sf
  decide

theorem append_toNat {m n : Nat} (u : BitVec m) (v : BitVec n) : (u ++ v).toNat = 2 ^ n * u.toNat + v.toNat := by
  rw [BitVec.toNat_append, Nat.shiftLeft_eq, Nat.mul_comm, ← Nat.two_pow_add_eq_or_of_lt v.isLt]

theorem lowestLine_lt (lines : Byte) : ∀ n k : Nat, lowestLine lines n k < k + n ∨ lowestLine lines n k = 0
  | 0, _ => .inr rfl
  | n + 1, k => by
    rw [lowestLine]
    split
    · exact .inl (by omega)
    · rcases lowestLine_lt lines n (k + 1) with h | h
      · exact .inl (by omega)
      · exact .inr h

/-! ### Reading -/

theorem GoodState.legal {w : Nat} {s : State} (h : GoodState w s) : s.cfg.legal = true :=
  ((registersOk_iff s).1 h.registers).1

/-- There are at most 7 maskable lines (R4). -/
theorem GoodState.isr_le {w : Nat} {s : State} (h : GoodState w s) : s.isr ≤ 7 := by
  have hlegal := h.legal
  simp only [Config.legal, Bool.and_eq_true, decide_eq_true_eq] at hlegal
  obtain ⟨⟨⟨⟨-, -⟩, hnirq⟩, -⟩, -⟩ := hlegal
  rcases lowestLine_lt s.irqLine s.cfg.nirq 1 with hlt | hzero
  · unfold State.isr; omega
  · unfold State.isr; omega

/-- `CR_TMV` is a number of its own (R4, R47). -/
theorem GoodState.crTmv_free {w : Nat} {s : State} (h : GoodState w s) {r : Byte} (hr : s.cfg.crTmv = some r) :
    r ∉ Config.listedRegisters := by
  have hlegal := h.legal
  simp only [Config.legal, hr, Bool.and_eq_true, Bool.not_eq_true', List.contains_eq_mem, decide_eq_false_iff_not] at hlegal
  exact hlegal.2

/-- The values that the configuration registers read as (R50 to R65). -/
def listedConfig (s : State) : List (Byte × Nat) :=
  [(0x00, 0x00AF), (0x01, s.cfg.myCore % 2 ^ s.w), (0x02, s.cfg.ncore % 2 ^ s.w), (0x03, s.actCore.toNat),
    (0x10, 256 * extendedNumber s.isHyp s.prevHyp s.sr.sf + statusNumber s.sr false false), (0x11, s.imr.toNat),
    (0x12, s.isr), (0x13, s.eim.toNat), (0x14, s.sph.toNat), (0x15, s.spu.toNat), (0x16, s.mh.toNat),
    (0x17, 256 * s.muUsel.toNat + s.muCode.toNat), (0x20, s.iv.toNat), (0x21, s.av.toNat), (0x22, s.tv.toNat),
    (0x30, s.cfg.ncont % 256)]

theorem srWord_eq (s : State) :
    s.srWord = word (256 * extendedNumber s.isHyp s.prevHyp s.sr.sf + statusNumber s.sr false false) := by
  rw [State.srWord, setWidth_eq_word (by decide), append_toNat, extendedByte_toNat, statusByte_toNat]
  rfl

/-- Every listed configuration register reads as its listed value. -/
theorem readConfig_listed {s : State} {r : Byte} {v : Nat} (h : (r, v) ∈ listedConfig s) : readConfig s r = .ok (word v) := by
  simp only [listedConfig, List.mem_cons, List.not_mem_nil, Prod.mk.injEq, or_false] at h
  rcases h with ⟨rfl, rfl⟩ | ⟨rfl, rfl⟩ | ⟨rfl, rfl⟩ | ⟨rfl, rfl⟩ | ⟨rfl, rfl⟩ | ⟨rfl, rfl⟩ | ⟨rfl, rfl⟩ | ⟨rfl, rfl⟩ |
    ⟨rfl, rfl⟩ | ⟨rfl, rfl⟩ | ⟨rfl, rfl⟩ | ⟨rfl, rfl⟩ | ⟨rfl, rfl⟩ | ⟨rfl, rfl⟩ | ⟨rfl, rfl⟩ | ⟨rfl, rfl⟩
  all_goals refine congrArg Except.ok ?_
  · rfl
  · exact low_ofNat _ _ s.w_le
  · exact low_ofNat _ _ s.w_le
  · exact (word_toNat_eq _).symm
  · exact srWord_eq s
  · exact setWidth_eq_word (by decide) _
  · rfl
  · exact setWidth_eq_word (by decide) _
  · exact (word_toNat_eq _).symm
  · exact (word_toNat_eq _).symm
  · exact setWidth_eq_word (by decide) _
  · exact (setWidth_eq_word (by decide) _).trans (congrArg word (append_toNat _ _))
  · exact (word_toNat_eq _).symm
  · exact (word_toNat_eq _).symm
  · exact (word_toNat_eq _).symm
  · exact low_ofNat _ _ (by decide)

/-- A listed value is `W` bits wide. -/
theorem GoodState.listedConfig_lt {w : Nat} {s : State} (h : GoodState w s) {r : Byte} {v : Nat}
    (hv : (r, v) ∈ listedConfig s) : v < 2 ^ w := by
  have h16 : 2 ^ 16 ≤ 2 ^ w := h.width ▸ Nat.pow_le_pow_right (by decide) s.w_ge
  have hmod : ∀ n, n % 2 ^ w < 2 ^ w := fun n => Nat.mod_lt _ (Nat.two_pow_pos w)
  have hmycore := hmod s.cfg.myCore
  have hncore := hmod s.cfg.ncore
  have hwide : ∀ u ∈ s.wideRegisters, u.toNat < 2 ^ w := fun u => h.wide
  have hsr : 256 * extendedNumber s.isHyp s.prevHyp s.sr.sf + statusNumber s.sr false false < 2 ^ 16 := by
    rw [← extendedByte_toNat, ← statusByte_toNat]; omega
  have hisr := h.isr_le
  have himr := s.imr.isLt
  have heim := s.eim.isLt
  have hmh := s.mh.isLt
  have hcode := s.muCode.isLt
  have husel := s.muUsel.isLt
  simp only [State.wideRegisters, List.forall_mem_cons] at hwide
  simp only [listedConfig, List.mem_cons, List.not_mem_nil, Prod.mk.injEq, or_false, h.width] at hv
  generalize 2 ^ w = bound at *
  omega

/-- `TMV` reads where CR_TMV puts it (R47). -/
theorem GoodState.readConfig_tmv {w : Nat} {s : State} (h : GoodState w s) {r : Byte} (hr : s.cfg.crTmv = some r) :
    readConfig s r = .ok s.tmv := by
  have hfree := h.crTmv_free hr
  simp only [Config.listedRegisters, List.mem_cons, List.not_mem_nil, or_false, not_or] at hfree
  simp only [readConfig, hfree, hr, if_false, if_true]

/-- A listed register, or `TMV` where CR_TMV puts it, reads as a `W`-bit value. -/
theorem GoodState.readConfig {w : Nat} {s : State} (h : GoodState w s) {r : Byte} {v : Nat}
    (hv : (r, v) ∈ listedConfig s ∨ s.cfg.crTmv = some r ∧ v = s.tmv.toNat) : readConfig s r = .ok (word v) ∧ v < 2 ^ w := by
  rcases hv with hlisted | ⟨hr, rfl⟩
  · exact ⟨readConfig_listed hlisted, h.listedConfig_lt hlisted⟩
  · rw [word_toNat_eq]
    exact ⟨h.readConfig_tmv hr, h.wide (by simp [State.wideRegisters])⟩

/-- `N` and `Z` of an `n`-bit value (R257). -/
theorem setNZ_eq {n : Nat} (hn : 0 < n) {v : Word} (hv : v.toNat < 2 ^ n) (s : State) :
    setNZ n v s = { s with sr := flagsNZ false n v.toNat s.sr } := by
  have hz : (v == 0) = decide (v.toNat = 0) := by
    rw [Bool.eq_iff_iff, beq_iff_eq, decide_eq_true_eq, ← BitVec.toNat_inj]
    rfl
  simp only [setNZ, topBit_eq hn hv, low_eq_self hv, hz, flagsNZ, Bool.false_eq_true, if_false]

theorem loadConfigBody_eq {s : State} {op : Word} {v : Nat} (hv : v < 2 ^ s.w)
    (hread : readConfig s (op.setWidth 8) = .ok (word v)) :
    loadConfigBody op s = .ok { s with a := word v, sr := flagsNZ false s.w v s.sr } := by
  have h16 := s.w_ge
  have hnat := toNat_word_of_lt s.w_le hv
  have hfits : (word v).toNat < 2 ^ s.w := hnat.symm ▸ hv
  simp only [loadConfigBody, hread, orRefuse]
  rw [setNZ_eq (by omega) hfits, hnat, State.setReg_sr, State.setReg, low_eq_self hfits]

theorem testConfigBody_eq {s : State} {op : Word} {v : Nat} (hv : v < 2 ^ s.w)
    (hread : readConfig s (op.setWidth 8) = .ok (word v)) :
    testConfigBody op s = .ok { s with sr := { s.sr with
      n := decide (2 ^ (s.w - 1) ≤ v), v := v / 2 ^ (s.w - 2) % 2 == 1, z := decide (s.a.toNat &&& v = 0) } } := by
  have h16 := s.w_ge
  have hnat := toNat_word_of_lt s.w_le hv
  have hfits : (word v).toNat < 2 ^ s.w := hnat.symm ▸ hv
  have hand : (s.a &&& word v).toNat = s.a.toNat &&& v := by rw [BitVec.toNat_and, hnat]
  have hlow : low s.w (s.a &&& word v) = s.a &&& word v :=
    low_eq_self (Nat.lt_of_le_of_lt (BitVec.toNat_and .. ▸ Nat.and_le_right) hfits)
  have hz : (low s.w (s.a &&& word v) == 0) = decide (s.a.toNat &&& v = 0) := by
    rw [hlow, Bool.eq_iff_iff, beq_iff_eq, decide_eq_true_eq, ← BitVec.toNat_inj, hand]
    rfl
  have hbit : (word v).getLsbD (s.w - 2) = (v / 2 ^ (s.w - 2) % 2 == 1) := by
    rw [BitVec.getLsbD, hnat, Nat.testBit_eq_decide_div_mod_eq]
    rfl
  simp only [testConfigBody, hread, orRefuse, topBit_eq (show 0 < s.w by omega) hfits, hnat, hbit, hz]

/-- Settles O43: every number of the list, and CR_TMV, reads as a `W`-bit value, from which LCR and BCR work. -/
theorem configurationRegistersReadAsListed : Obligations.ConfigurationRegistersReadAsListed := by
  intro p op s v hwf r hlisted
  obtain ⟨hread, hlt⟩ := (GoodState.of_wellFormed hwf).readConfig hlisted
  have hread' : readConfig s (op.setWidth 8) = .ok (word v) := by rw [← BitVec.ofNat_toNat]; exact hread
  exact ⟨fun hp => exec_eq_next (body := loadConfigBody op) rfl hp (loadConfigBody_eq hlt hread'),
    fun hp => exec_eq_next (body := testConfigBody op) rfl hp (testConfigBody_eq hlt hread')⟩

/-! ### Writing -/

/-- A field of the accumulator that is below `2^m` has no bit from `m` on. -/
theorem low_shift_eq_zero {n m : Nat} {v : Word} (h : v.toNat % 2 ^ n < 2 ^ m) : low n v >>> m = 0 := by
  apply BitVec.eq_of_toNat_eq
  rw [BitVec.toNat_ushiftRight, low_toNat, Nat.shiftRight_eq_div_pow]
  exact Nat.div_eq_of_lt h

theorem low_eq_zero {n : Nat} {v : Word} (h : v.toNat % 2 ^ n = 0) : low n v = 0 := by
  apply BitVec.eq_of_toNat_eq
  rw [low_toNat, h]
  rfl

theorem writeConfig_imr (s : State) {v : Word} (h : v.toNat % 256 < 8) :
    writeConfig s 0x11 v = .ok { s with imr := BitVec.ofNat 3 v.toNat } := by
  have hreserved : low 8 v >>> 3 = 0 := low_shift_eq_zero h
  simp [writeConfig, hreserved]

theorem writeConfig_mh (s : State) (v : Word) :
    writeConfig s 0x16 v = .ok { s with mh := BitVec.ofNat 8 v.toNat } := by
  simp [writeConfig]

theorem writeConfig_mu (s : State) {v : Word} (h : v.toNat % 65536 < 2048) :
    writeConfig s 0x17 v =
      .ok { s with muCode := BitVec.ofNat 8 v.toNat, muUsel := BitVec.ofNat 3 (v.toNat / 256) } := by
  have hreserved : low 16 v >>> 11 = 0 := low_shift_eq_zero h
  have hsel : (v >>> 8).setWidth 3 = BitVec.ofNat 3 (v.toNat / 256) := by
    rw [← BitVec.ofNat_toNat, BitVec.toNat_ushiftRight, Nat.shiftRight_eq_div_pow]
  simp [writeConfig, hreserved, hsel]

theorem writeConfig_iv {s : State} {v : Word} (hv : v.toNat < 2 ^ s.w) (h : v.toNat % 256 = 0) :
    writeConfig s 0x20 v = .ok { s with iv := v, ivAct := true } := by
  have hreserved : low 8 v = 0 := low_eq_zero h
  simp [writeConfig, hreserved, low_eq_self hv]

theorem writeConfig_av {s : State} {v : Word} (hv : v.toNat < 2 ^ s.w) (h : v.toNat % 256 = 0) :
    writeConfig s 0x21 v = .ok { s with av := v, avAct := true } := by
  have hreserved : low 8 v = 0 := low_eq_zero h
  simp [writeConfig, hreserved, low_eq_self hv]

theorem writeConfig_tv {s : State} {v : Word} (hv : v.toNat < 2 ^ s.w) (h : v.toNat % 512 = 0) :
    writeConfig s 0x22 v = .ok { s with tv := v, tvAct := true } := by
  have hreserved : low 9 v = 0 := low_eq_zero h
  simp [writeConfig, hreserved, low_eq_self hv]

theorem GoodState.writeConfig_tmv {w : Nat} {s : State} (h : GoodState w s) {r : Byte} (hr : s.cfg.crTmv = some r)
    {v : Word} (hv : v.toNat < 2 ^ s.w) : Machine.writeConfig s r v = .ok { s with tmv := v } := by
  have hfree := h.crTmv_free hr
  have hlisted : Config.listedRegisters.contains r = false := by simpa using hfree
  simp only [Config.listedRegisters, List.mem_cons, List.not_mem_nil, or_false, not_or] at hfree
  simp only [Machine.writeConfig, hfree, hr, hlisted, if_false, if_true, Bool.false_eq_true, low_eq_self hv]

theorem writeConfig_readOnly (s : State) {r : Byte}
    (h : r ∈ ([0x00, 0x01, 0x02, 0x10, 0x12, 0x13, 0x14, 0x15, 0x30] : List Byte)) (v : Word) :
    writeConfig s r v = .error (.readOnlyConfigRegister r) := by
  simp only [List.mem_cons, List.not_mem_nil, or_false] at h
  rcases h with rfl | rfl | rfl | rfl | rfl | rfl | rfl | rfl | rfl <;> rfl

/-- Every bit of MC_ACTCORE after the core's own write; above `W` all of them are 0 (R53). -/
theorem newActCore_own_getLsbD {s : State} (hact : s.actCore.toNat < 2 ^ s.w) {v : Word} (hv : v.toNat < 2 ^ s.w) (j : Nat) :
    (newActCore s s.cfg.myCore v).getLsbD j =
      if j = s.cfg.myCore then s.actCore.getLsbD j
      else decide (j < s.cfg.ncore) && v.getLsbD j && (s.actCore.getLsbD j || decide (j ≠ 0)) := by
  by_cases hj : j < s.w
  · exact newActCore_getLsbD s _ v hj
  · have habove : ∀ {u : Word}, u.toNat < 2 ^ s.w → u.getLsbD j = false := fun hu => by
      rw [← low_eq_self hu, low_getLsbD, decide_eq_false hj, Bool.false_and]
    have hnew : (newActCore s s.cfg.myCore v).getLsbD j = false := by
      simp only [newActCore, BitVec.getLsbD_or, BitVec.getLsbD_and, habove hact, low_getLsbD, decide_eq_false hj,
        Bool.false_and, Bool.or_false]
    rw [hnew, habove hact, habove hv]
    simp

/-- Settles O44: SCR answers what the register write gives, and each write is one equation of `writeConfig`. -/
theorem configurationRegistersAreWrittenAsListed : Obligations.ConfigurationRegistersAreWrittenAsListed := by
  intro p op s hwf hp r u
  have h := GoodState.of_wellFormed hwf
  have ha : s.a.toNat < 2 ^ u.w := h.wide (by simp [State.wideRegisters])
  have hact : s.actCore.toNat < 2 ^ u.w := h.wide (by simp [State.wideRegisters])
  have hu : GoodState s.w u := h.setPc _
  have hbody : storeConfigBody op u = orRefuse u (writeConfig u r s.a) := by
    rw [storeConfigBody, ← BitVec.ofNat_toNat]
    rfl
  have hnext : ∀ {t}, writeConfig u r s.a = .ok t → exec (.scr p op) s = .next t := fun hw =>
    exec_eq_next (body := storeConfigBody op) rfl hp (by rw [hbody, hw, orRefuse])
  refine ⟨fun hr hlt => hnext ?_, fun hr => hnext ?_, fun hr hlt => hnext ?_, fun hr h0 => hnext ?_, fun hr h0 => hnext ?_,
    fun hr h0 => hnext ?_, fun hr => hnext ?_, fun hr => ⟨_, hnext ?_, newActCore_own_getLsbD hact ha⟩, fun hr => ?_⟩
  · rw [hr]; exact writeConfig_imr u hlt
  · rw [hr]; exact writeConfig_mh u _
  · rw [hr]; exact writeConfig_mu u hlt
  · rw [hr]; exact writeConfig_iv ha h0
  · rw [hr]; exact writeConfig_av ha h0
  · rw [hr]; exact writeConfig_tv ha h0
  · exact hu.writeConfig_tmv hr ha
  · rw [hr]; rfl
  · exact exec_eq_refused (i := .scr p op) (s := s) (body := storeConfigBody op) rfl hp (by rw [hbody, writeConfig_readOnly u hr, orRefuse])

end Sys2Proof.Machine
end

section
/-! Reads and writes of a state that differs in its registers only, and what a write stores (R104, R107, R127). -/

namespace Sys2Proof.Machine

open Sys2Proof.Claims

/-! ### Reads -/

theorem readByte_congr {s t : State} (hc : t.cfg = s.cfg) (hk : t.cont = s.cont) (hh : t.mh = s.mh)
    (hu : t.muCode = s.muCode) (hm : t.mem = s.mem) (env : Env) (ea : Word) (k : Access) :
    readByte t env ea k = readByte s env ea k := by
  simp only [readByte, locate_congr hc hk hh hu, hm]

theorem readBytes_congr {s t : State} (hc : t.cfg = s.cfg) (hk : t.cont = s.cont) (hh : t.mh = s.mh)
    (hu : t.muCode = s.muCode) (hm : t.mem = s.mem) (env : Env) : ∀ (k : Nat) (ea : Word),
    readBytes t env ea k = readBytes s env ea k
  | 0, _ => rfl
  | k + 1, ea => by
    simp only [readBytes, readByte_congr hc hk hh hu hm, State.w_eq_of_cfg hc, readBytes_congr hc hk hh hu hm env k]

/-- A read looks at the parameters, the containers, the match codes and memory only. -/
theorem memRead_congr {s t : State} (hc : t.cfg = s.cfg) (hk : t.cont = s.cont) (hh : t.mh = s.mh)
    (hu : t.muCode = s.muCode) (hm : t.mem = s.mem) (env : Env) (ea : Word) (k : Nat) :
    memRead t env ea k = memRead s env ea k := by
  simp only [memRead, readBytes_congr hc hk hh hu hm, State.w_eq_of_cfg hc, halt, hm]

theorem memRead_past (i : Instr) (s : State) (env : Env) (ea : Word) (k : Nat) :
    memRead (past i s) env ea k = memRead s env ea k := 
  memRead_congr (s := s) (t := past i s) rfl rfl rfl rfl rfl env ea k

/-! ### Writes -/

theorem littleEndian_succ (k v : Nat) : littleEndian (k + 1) v = BitVec.ofNat 8 v :: littleEndian k (v / 256) := by
  simp only [littleEndian, List.range_succ_eq_map, List.map_cons, List.map_map, Nat.pow_zero, Nat.div_one]
  refine congrArg _ (List.map_congr_left fun j _ => ?_)
  simp only [Function.comp_apply, Nat.pow_succ', Nat.div_div_eq_div_mul]

/-- The bytes a write takes a value apart into are its base 256 digits (R104). -/
theorem toBytes_eq : ∀ (k : Nat) (v : Word), toBytes k v = littleEndian k v.toNat
  | 0, _ => rfl
  | k + 1, v => by
    rw [toBytes, toBytes_eq k, littleEndian_succ, BitVec.ofNat_toNat, BitVec.toNat_ushiftRight, Nat.shiftRight_eq_div_pow]

theorem upward_cons (ea : Word) (b : Byte) (bs : List Byte) : upward ea (b :: bs) = (ea, b) :: upward (ea + 1) bs := by
  have hsucc : ∀ j, word (j + 1) = 1 + word j := fun j => by simp [word, BitVec.ofNat_add, BitVec.add_comm]
  simp only [upward, List.mapIdx_cons, hsucc, ← BitVec.add_assoc]
  simp [word]

theorem writable_cons (s : State) (env : Env) (c : Word × Byte) (cells : List (Word × Byte)) :
    writable s env (c :: cells) = true ↔ (∃ o, locate s env (low s.w c.1) .write = .ok o) ∧ writable s env cells = true := by
  simp only [writable, List.all_cons, Bool.and_eq_true]
  cases locate s env (low s.w c.1) .write <;> simp

/-- A byte that READONLY drops lands nowhere (R123). -/
theorem landed_cons_dropped {s : State} {env : Env} {c : Word × Byte} (h : locate s env (low s.w c.1) .write = .ok none)
    (cells : List (Word × Byte)) : landed s env (c :: cells) = landed s env cells := by
  simp only [landed, List.filterMap_cons, h]

theorem landed_cons_stored {s : State} {env : Env} {c : Word × Byte} {q : Nat}
    (h : locate s env (low s.w c.1) .write = .ok (some q)) (cells : List (Word × Byte)) :
    landed s env (c :: cells) = (q, c.2) :: landed s env cells := by
  simp only [landed, List.filterMap_cons, h]

/-- A write none of whose bytes aborts stores them where they land, one after another (R107, R123). -/
theorem writeBytes_of_writable (env : Env) : ∀ (bs : List Byte) (s : State) (ea : Word),
    writable s env (upward ea bs) = true →
    writeBytes s env (low s.w ea) bs =
      .ok { s with mem := (landed s env (upward ea bs)).foldl (fun m c => m.store c.1 c.2) s.mem }
  | [], _, _, _ => rfl
  | b :: bs, s, ea, h => by
    rw [upward_cons, writable_cons] at h
    obtain ⟨⟨o, ho⟩, hrest⟩ := h
    rw [upward_cons]
    cases o with
    | none =>
      rw [landed_cons_dropped ho, writeBytes, writeByte, ho]
      dsimp only
      rw [low_low_add _ _ _ s.w_le]
      exact writeBytes_of_writable env bs s (ea + 1) hrest
    | some q =>
      rw [landed_cons_stored ho, writeBytes, writeByte, ho]
      dsimp only
      rw [low_low_add _ _ _ (State.w_le _)]
      exact writeBytes_of_writable env bs { s with mem := s.mem.store q b } (ea + 1) hrest

/-- A complete write, and what it leaves in memory (R107, R127). -/
theorem memWrite_of_writable {s : State} (hm : s.mem.wf = true) {env : Env} {ea v : Word} {k : Nat}
    (h : writable s env (upward ea (littleEndian k v.toNat)) = true) :
    ∃ m, memWrite s env ea k v = .ok { s with mem := m } ∧ Stores s env (upward ea (littleEndian k v.toNat)) m := by
  refine ⟨_, ?_, (stores_iff hm).2 rfl⟩
  rw [memWrite, toBytes_eq]
  exact writeBytes_of_writable env _ s ea h

end Sys2Proof.Machine
end

section
/-! SENV (R67 to R70, R623, R624). -/

namespace Sys2Proof.Machine

open Sys2Proof.Claims

theorem containerIndex_ok {s : State} {op : Word} (hmmu : s.cfg.mmu = true) (hlt : op.toNat % 256 < s.cfg.ncont) :
    containerIndex op s = .ok (op.toNat % 256) := by
  have h : ¬ (s.cfg.mmu = false ∨ s.cfg.ncont ≤ op.toNat % 256) := by simp [hmmu, hlt]
  rw [containerIndex, low_toNat]
  exact if_neg h

theorem containerIndex_refused {s : State} {op : Word} (h : s.cfg.mmu = false ∨ s.cfg.ncont ≤ op.toNat % 256) :
    containerIndex op s = refuse s (.containerNumber (op.toNat % 256)) := by
  rw [containerIndex, low_toNat]
  exact if_pos h

theorem loadContainerBody_eq {s : State} {op : Word} {cc : Nat} {m c o : Word} (hindex : containerIndex op s = .ok cc)
    (hm : memRead s s.cur s.e s.wBytes = .ok m) (hc : memRead s s.cur (s.e + word s.wBytes) s.wBytes = .ok c)
    (ho : memRead s s.cur (s.e + word (2 * s.wBytes)) s.wBytes = .ok o) :
    loadContainerBody op s = .ok { s with cont := s.cont.set cc { mask := m, cmp := c, off := o } } := by
  rw [word] at hc ho
  simp only [loadContainerBody, hindex, hm, hc, ho]

/-- Settles O45: both forms first name the container, and the second reads its three words before it writes the set. -/
theorem senvFillsOneContainer : Obligations.SenvFillsOneContainer := by
  intro p op s m c o _ cc
  refine ⟨fun hp hmmu hlt => ?_, fun hp hmmu hlt hm hc ho => ?_, fun hp hno => ⟨?_, ?_⟩⟩
  · have hindex : containerIndex op (past (.senv p op) s) = .ok cc := containerIndex_ok hmmu hlt
    exact exec_eq_next (body := setContainerBody op) rfl hp (by rw [setContainerBody, hindex]; rfl)
  · have hindex : containerIndex op (past (.senvE p op) s) = .ok cc := containerIndex_ok hmmu hlt
    exact exec_eq_next (body := loadContainerBody op) rfl hp (loadContainerBody_eq hindex ((memRead_past ..).trans hm)
      ((memRead_past ..).trans hc) ((memRead_past ..).trans ho))
  · have hindex : containerIndex op (past (.senv p op) s) = refuse _ (.containerNumber cc) := containerIndex_refused hno
    exact exec_eq_refused (i := .senv p op) (s := s) (body := setContainerBody op) rfl hp
      (by rw [setContainerBody, hindex]; rfl)
  · have hindex : containerIndex op (past (.senvE p op) s) = refuse _ (.containerNumber cc) := containerIndex_refused hno
    exact exec_eq_refused (i := .senvE p op) (s := s) (body := loadContainerBody op) rfl hp
      (by rw [loadContainerBody, hindex]; rfl)

end Sys2Proof.Machine
end

section
/-! What a load leaves in a register (R252), and LLA and SCA (R530, R531). -/

namespace Sys2Proof.Machine

open Sys2Proof.Claims

/-- Ones above an `n`-bit value (R252). -/
theorem onesExt_toNat {n w : Nat} (hn : n ≤ w) (hw : w ≤ 64) {v : Word} (hv : v.toNat < 2 ^ n) :
    (onesExt n w v).toNat = v.toNat + (2 ^ w - 2 ^ n) := by
  have hones : 2 ^ w - 2 ^ n = 2 ^ n * (2 ^ (w - n) - 1) := by
    rw [Nat.mul_sub, ← Nat.pow_add, Nat.mul_one, Nat.add_sub_cancel' hn]
  rw [hones, Nat.add_comm]
  apply Nat.eq_of_testBit_eq
  intro i
  rw [Nat.testBit_two_pow_mul_add _ hv, Nat.testBit_two_pow_sub_one]
  change (onesExt n w v).getLsbD i = _
  simp only [onesExt, low_getLsbD, BitVec.getLsbD_or, BitVec.getLsbD_shiftLeft, BitVec.getLsbD_allOnes]
  by_cases hin : i < n
  · simp [hin, Nat.lt_of_lt_of_le hin hn, BitVec.getLsbD]
  · have hrange : decide (i < w) = decide (i - n < w - n) := by rw [decide_eq_decide]; omega
    by_cases hiw : i < w
    · simp [hin, ← hrange, hiw, Nat.lt_of_lt_of_le hiw hw, show i - n < 64 by omega]
    · simp [hin, ← hrange, hiw]

/-- An extended value is `W` bits wide (R252). -/
theorem extended_lt {n w v : Nat} (hn : n ≤ w) (e : Extension) (hv : v < 2 ^ n) : extended n w e v < 2 ^ w := by
  have hpow : 2 ^ n ≤ 2 ^ w := Nat.pow_le_pow_right (by decide) hn
  cases e with
  | none | zero => exact Nat.lt_of_lt_of_le hv hpow
  | sign =>
    rw [extended]
    split_ifs <;> omega
  | ones =>
    rw [extended]
    omega

/-- The extension of an `n`-bit value as a number (R252). -/
theorem extend_toNat {n w : Nat} (hn : n ≤ w) (hw : w ≤ 64) (e : Extension) {v : Word} (hv : v.toNat < 2 ^ n) :
    (extend n w e v).toNat = extended n w e v.toNat := by
  have hpow : 2 ^ n ≤ 2 ^ w := Nat.pow_le_pow_right (by decide) hn
  cases e with
  | none => exact congrArg BitVec.toNat (low_eq_self hv)
  | zero => rw [extend, low_eq_self hv, low_eq_self (Nat.lt_of_lt_of_le hv hpow)]; rfl
  | sign =>
    rw [extend, signExt_toNat hn hw, Nat.mod_eq_of_lt hv, extended]
    split_ifs <;> omega
  | ones => exact onesExt_toNat hn hw hv

/-- With LEeff 00 a load keeps the bits above the value, which stays `W` bits wide (R7, R252). -/
theorem replaced_lt {n w old v : Nat} (hn : n ≤ w) (hold : old < 2 ^ w) (hv : v < 2 ^ n) : replaced n old v < 2 ^ w := by
  obtain ⟨q, hq⟩ : 2 ^ n ∣ 2 ^ w := Nat.pow_dvd_pow 2 hn
  have hdiv : old / 2 ^ n < q := Nat.div_lt_of_lt_mul (hq ▸ hold)
  have hmul : (old / 2 ^ n + 1) * 2 ^ n ≤ q * 2 ^ n := Nat.mul_le_mul_right _ hdiv
  rw [Nat.add_mul, Nat.one_mul, Nat.mul_comm q] at hmul
  rw [replaced, hq]
  omega

/-- The register after a load or a transfer, as a number (R252, R300). -/
theorem loadInto_toNat {n w : Nat} (hn : n ≤ w) (hw : w ≤ 64) (e : Extension) (old : Word) {v : Word} (hv : v.toNat < 2 ^ n) :
    (loadInto n w e old v).toNat = loaded n w e old.toNat v.toNat := by
  cases e with
  | none => rw [loadInto, insertLow_toNat, Nat.mod_eq_of_lt hv]; rfl
  | sign => exact extend_toNat hn hw .sign hv
  | zero => exact extend_toNat hn hw .zero hv
  | ones => exact extend_toNat hn hw .ones hv

theorem loaded_lt {n w old v : Nat} (hn : n ≤ w) (e : Extension) (hold : old < 2 ^ w) (hv : v < 2 ^ n) :
    loaded n w e old v < 2 ^ w := by
  cases e with
  | none => exact replaced_lt hn hold hv
  | sign => exact extended_lt hn .sign hv
  | zero => exact extended_lt hn .zero hv
  | ones => exact extended_lt hn .ones hv

theorem low_loadInto {n w : Nat} (hn : n ≤ w) (hw : w ≤ 64) (e : Extension) {old v : Word} (hold : old.toNat < 2 ^ w)
    (hv : v.toNat < 2 ^ n) : low w (loadInto n w e old v) = word (loaded n w e old.toNat v.toNat) := by
  rw [← loadInto_toNat hn hw e old hv, word_toNat_eq, low_eq_self_iff, loadInto_toNat hn hw e old hv]
  exact loaded_lt hn e hold hv

/-- The flags of a load: none under NF (R257, R259). -/
theorem unlessNf_setNZ {n : Nat} (hn : 0 < n) {m : Word} (hm : m.toNat < 2 ^ n) (p : Pfx) (s : State) :
    unlessNf p (setNZ n m) s = { s with sr := flagsNZ p.nf n m.toNat s.sr } := by
  rw [unlessNf, setNZ_eq hn hm]
  cases p.nf <;> rfl

theorem opBits_pos (p : Pfx) : 0 < opBits p := by
  unfold opBits
  cases p.size <;> decide

/-- An operation no wider than `W` runs (R250). -/
theorem withWidth_of_ready {i : Instr} {s : State} (h : ready i s = true) (body : State → Res State) :
    withWidth i.view.pfx body (past i s) = body (past i s) := by
  simp only [ready, Bool.and_eq_true, decide_eq_true_eq] at h
  exact if_neg (Nat.not_lt_of_le h.2)

theorem permitted_of_ready {i : Instr} {s : State} (h : ready i s = true) : permitted i s = true := by
  simp only [ready, Bool.and_eq_true] at h
  exact h.1

theorem opBits_le_of_ready {i : Instr} {s : State} (h : ready i s = true) : opBits i.view.pfx ≤ s.w := by
  simp only [ready, Bool.and_eq_true, decide_eq_true_eq] at h
  exact h.2

theorem loadLinkedBody_eq {p : Pfx} {s : State} {m : Word} (hn : opBits p ≤ s.w) (ha : s.a.toNat < 2 ^ s.w)
    (hm : memRead s (s.denv p) s.e p.size.bytes = .ok m) :
    loadLinkedBody p s = .ok { s with
      a := word (loaded (opBits p) s.w (p.extension .zero) s.a.toNat m.toNat)
      sr := flagsNZ p.nf (opBits p) m.toNat s.sr
      link := some { env := s.denv p, addr := s.e, nb := p.size.bytes } } := by
  have hlt : m.toNat < 2 ^ opBits p := memRead_lt hm
  simp only [loadLinkedBody, hm, unlessNf_setNZ (opBits_pos p) hlt, State.setReg, low_loadInto hn s.w_le _ ha hlt]

/-- SCA under the reservation is a write (R531). -/
theorem storeConditionalBody_reserved {p : Pfx} {s : State} {m : Memory}
    (hlink : s.link = some { env := s.denv p, addr := s.e, nb := p.size.bytes })
    (hwrite : memWrite s (s.denv p) s.e p.size.bytes s.a = .ok { s with mem := m }) :
    storeConditionalBody p s = .ok { s with mem := m, sr := { s.sr with v := false }, link := none } := by
  rw [storeConditionalBody, if_pos hlink, hwrite]
  rfl

theorem storeConditionalBody_unreserved {p : Pfx} {s : State}
    (hlink : s.link ≠ some { env := s.denv p, addr := s.e, nb := p.size.bytes }) :
    storeConditionalBody p s = .ok { s with sr := { s.sr with v := true }, link := none } := by
  rw [storeConditionalBody, if_neg hlink]
  rfl

/-- Settles O40: LLA is a load that reserves; SCA is a write under the reservation and a flag without it. -/
theorem storeConditionalNeedsTheReservation : Obligations.StoreConditionalNeedsTheReservation := by
  intro p s hwf mine cells
  have h := GoodState.of_wellFormed hwf
  have ha : s.a.toNat < 2 ^ s.w := h.wide (by simp [State.wideRegisters])
  have hlla : HasBody (.llaE p) s (withWidth p (loadLinkedBody p)) := rfl
  have hsca : HasBody (.scaE p) s (withWidth p (storeConditionalBody p)) := rfl
  refine ⟨fun m hready hm => ?_, fun hready hlink hwritable => ?_, fun hready hlink => ?_⟩
  · exact exec_eq_next hlla (permitted_of_ready hready) ((withWidth_of_ready hready _).trans
      (loadLinkedBody_eq (opBits_le_of_ready hready) ha ((memRead_past ..).trans hm)))
  · obtain ⟨m, hwrite, hstores⟩ := memWrite_of_writable (s := past (.scaE p) s) h.memory.canonical hwritable
    exact ⟨m, exec_eq_next hsca (permitted_of_ready hready) ((withWidth_of_ready hready _).trans
      (storeConditionalBody_reserved hlink hwrite)), hstores⟩
  · exact exec_eq_next hsca (permitted_of_ready hready) ((withWidth_of_ready hready _).trans
      (storeConditionalBody_unreserved hlink))

end Sys2Proof.Machine
end

section
/-! Pulls as reads above the stack pointer (R270), and the returns RTI and RTU (R690 to R694). -/

namespace Sys2Proof.Machine

open Sys2Proof.Claims

/-! ### Addresses modulo `2^W` -/

theorem wrap_toNat {w : Nat} (hw : w ≤ 64) (v : Int) : ((wrap w v).toNat : Int) = v % 2 ^ w := by
  have hpos : (0 : Int) < 2 ^ w := by positivity
  have hnonneg : 0 ≤ v % 2 ^ w := Int.emod_nonneg _ (by omega)
  have hlt : (v % 2 ^ w).toNat < 2 ^ w := by
    have := Int.emod_lt_of_pos v hpos
    zify
    rwa [Int.toNat_of_nonneg hnonneg]
  rw [wrap, toNat_word_of_lt hw hlt, Int.toNat_of_nonneg hnonneg]

/-- A `W`-bit value is an integer modulo `2^W` if it is congruent to it. -/
theorem low_eq_wrap {w : Nat} (hw : w ≤ 64) {u : Word} {v : Int} (h : (u.toNat : Int) % 2 ^ w = v % 2 ^ w) :
    low w u = wrap w v := by
  apply BitVec.eq_of_toNat_eq
  zify
  rw [wrap_toNat hw, low_toNat]
  exact_mod_cast h

/-- A sign extension is the two's complement value modulo `2^W`. -/
theorem signExt_emod {n w : Nat} (hn : n ≤ w) (hw : w ≤ 64) {v : Word} (hv : v.toNat < 2 ^ n) :
    ((signExt n w v).toNat : Int) % 2 ^ w = signed n v.toNat % 2 ^ w := by
  have hpow : 2 ^ n ≤ 2 ^ w := Nat.pow_le_pow_right (by decide) hn
  rw [signExt_toNat hn hw, Nat.mod_eq_of_lt hv, signed]
  by_cases hneg : 2 ^ (n - 1) ≤ v.toNat
  · rw [if_pos hneg, if_neg (Nat.not_lt_of_le hneg)]
    have hsum : ((v.toNat + (2 ^ w - 2 ^ n) : Nat) : Int) = (v.toNat : Int) - 2 ^ n + 2 ^ w := by
      push_cast [hpow]; ring
    rw [hsum, Int.add_emod_right]
  · rw [if_neg hneg, if_pos (Nat.lt_of_not_le hneg)]

theorem signExt_eq_wrap {n w : Nat} (hn : n ≤ w) (hw : w ≤ 64) {v : Word} (hv : v.toNat < 2 ^ n) :
    signExt n w v = wrap w (signed n v.toNat) := by
  rw [← low_signExt]
  exact low_eq_wrap hw (signExt_emod hn hw hv)

theorem low_signExt_add_one {n w : Nat} (hn : n ≤ w) (hw : w ≤ 64) {v : Word} (hv : v.toNat < 2 ^ n) :
    low w (signExt n w v + 1) = wrap w (signed n v.toNat + 1) := by
  refine low_eq_wrap hw ?_
  have hdvd : (2 : Int) ^ w ∣ 2 ^ 64 := pow_dvd_pow 2 hw
  have hsucc : (((signExt n w v + 1).toNat : Nat) : Int) = ((signExt n w v).toNat + 1) % 2 ^ 64 := by
    simp [BitVec.toNat_add]
  rw [hsucc, Int.emod_emod_of_dvd _ hdvd, Int.add_emod, signExt_emod hn hw hv, ← Int.add_emod]

/-! ### Pulls -/

theorem setSp_setSp (s : State) (env : Env) (u v : Word) : (s.setSp env u).setSp env v = s.setSp env v := by
  cases env <;> rfl

theorem setSp_low_add (s : State) (env : Env) (u v : Word) : s.setSp env (low s.w u + v) = s.setSp env (u + v) := by
  cases env <;> simp only [State.setSp, low_low_add _ _ _ s.w_le]

theorem memRead_setSp (s : State) (env env' : Env) (u ea : Word) (k : Nat) :
    memRead (s.setSp env u) env' ea k = memRead s env' ea k :=
  memRead_congr (by simp) (by simp) (by simp) (by simp) (by simp) ..

theorem memRead_low_add (s : State) (env : Env) (u v : Word) (k : Nat) :
    memRead s env (low s.w u + v) k = memRead s env (u + v) k := by
  simp only [memRead, low_low_add _ _ _ s.w_le]

theorem word_succ (k : Nat) : word (k + 1) = 1 + word k := by simp [word, BitVec.ofNat_add, BitVec.add_comm]

/-- Bytes that can be read above the stack pointer are pulled, and the pointer goes up by as many (R270). -/
theorem pullBytes_of_readBytes (env : Env) : ∀ (k : Nat) {s : State} {bs : List Byte},
    readBytes s env (low s.w (s.sp env + 1)) (k + 1) = .ok bs →
    pullBytes s env (k + 1) = .ok (bs, s.setSp env (s.sp env + word (k + 1)))
  | k, s, bs, h => by
    have hbyte : readByte (s.setSp env (s.sp env + 1)) env (low s.w (s.sp env + 1)) .read =
        readByte s env (low s.w (s.sp env + 1)) .read :=
      readByte_congr (by simp) (by simp) (by simp) (by simp) (by simp) ..
    rw [readBytes] at h
    rw [pullBytes]
    simp only [State.sp_setSp_same, hbyte]
    split at h
    · cases h
    · rename_i b hb
      cases k with
      | zero =>
        cases h
        rfl
      | succ k =>
        split at h
        · cases h
        · rename_i bs' hrest
          cases h
          have hmoved : readBytes (s.setSp env (s.sp env + 1)) env
              (low (s.setSp env (s.sp env + 1)).w ((s.setSp env (s.sp env + 1)).sp env + 1)) (k + 1) = .ok bs' := by
            rw [← hrest, State.sp_setSp_same, State.setSp_w]
            exact readBytes_congr (by simp) (by simp) (by simp) (by simp) (by simp) ..
          have hsp : (s.setSp env (s.sp env + 1)).setSp env ((s.setSp env (s.sp env + 1)).sp env + word (k + 1)) =
              s.setSp env (s.sp env + word (k + 1 + 1)) := by
            rw [State.sp_setSp_same, setSp_setSp, setSp_low_add, BitVec.add_assoc, ← word_succ]
          simp only [pullBytes_of_readBytes env k hmoved, hsp]

/-- A pull gives what a read above the stack pointer gives (R270). -/
theorem pull_of_memRead {s : State} {env : Env} {k : Nat} {v : Word} (hk : 0 < k)
    (h : memRead s env (s.sp env + 1) k = .ok v) : pull s env k = .ok (v, s.setSp env (s.sp env + word k)) := by
  obtain ⟨k, rfl⟩ := Nat.exists_eq_succ_of_ne_zero (Nat.pos_iff_ne_zero.1 hk)
  unfold memRead at h
  split at h
  · cases h
  · rename_i bs hbs
    cases h
    rw [pull, pullBytes_of_readBytes env k hbs]

/-- The next pull reads above what was pulled before. -/
theorem memRead_above_pulled {s : State} {env : Env} (u : Word) (k : Nat) :
    memRead (s.setSp env u) env ((s.setSp env u).sp env + 1) k = memRead s env (u + 1) k := by
  rw [memRead_setSp, State.sp_setSp_same, memRead_low_add]

/-! ### Frames -/

theorem pullEnv_eq (s : State) : pullEnv s = pullsFrom s := by simp [pullEnv, pullsFrom]

theorem pullsFrom_cases (s : State) : pullsFrom s = .hyp ∨ pullsFrom s = .user := by
  unfold pullsFrom
  split
  · exact .inl rfl
  · exact .inr rfl

/-- The size of the address that an extended status byte announces (R39). -/
def sizeOfCode (sf : BitVec 2) : Nat := if sf = 1 then 2 else if sf = 2 then 4 else 8

theorem codeBytes_eq : ∀ sf : BitVec 2, codeBytes sf = if sf = 0 then 0 else sizeOfCode sf := by decide

theorem sizeOfCode_pos (sf : BitVec 2) : 0 < sizeOfCode sf := by
  unfold sizeOfCode
  split_ifs <;> decide

section Frame

variable {s : State} {env : Env} {x : Word} {sf : BitVec 2} (hx : memRead s env (s.sp env + 1) 1 = .ok x)
  (hsf : x.setWidth 2 = sf)
include hx hsf

/-- A frame size that the core does not have is refused (R39). -/
theorem pullFrame_reserved (h : sf = 0 ∨ s.wBytes < sizeOfCode sf) : pullFrame s env = refuse s .reservedFrameSize := by
  have hcode : codeBytes sf = 0 ∨ s.wBytes < codeBytes sf := by
    rw [codeBytes_eq]
    by_cases h0 : sf = 0
    · exact .inl (if_pos h0)
    · rw [if_neg h0]
      exact .inr (h.resolve_left h0)
  simp only [pullFrame, pull_of_memRead (by decide) hx, hsf, if_pos hcode]

variable (h0 : sf ≠ 0) (hk : sizeOfCode sf ≤ s.wBytes)
include h0 hk

/-- `H` set on the user stack (R694). -/
theorem pullFrame_privrti (hpriv : env = .user ∧ x.getLsbD 3 = true) : pullFrame s env = halt s (.abort .privrti) := by
  have hcode : codeBytes sf = sizeOfCode sf := (codeBytes_eq sf).trans (if_neg h0)
  have hlegal : ¬ (sizeOfCode sf = 0 ∨ s.wBytes < sizeOfCode sf) := by have := sizeOfCode_pos sf; omega
  simp only [pullFrame, pull_of_memRead (by decide) hx, hsf, hcode, if_neg hlegal, if_pos hpriv]

/-- The address of the announced size follows (R691, R692). -/
theorem pullFrame_of_memRead (hpriv : ¬ (env = .user ∧ x.getLsbD 3 = true)) {a : Word}
    (ha : memRead s env (s.sp env + 2) (sizeOfCode sf) = .ok a) :
    pullFrame s env = .ok
      { addr := a, size := sizeOfCode sf, h := env != .user && x.getLsbD 3, p := env != .user && x.getLsbD 2, sf := sf,
        after := s.setSp env (s.sp env + 1 + word (sizeOfCode sf)) } := by
  have hcode : codeBytes sf = sizeOfCode sf := (codeBytes_eq sf).trans (if_neg h0)
  have hlegal : ¬ (sizeOfCode sf = 0 ∨ s.wBytes < sizeOfCode sf) := by have := sizeOfCode_pos sf; omega
  have hnext : memRead (s.setSp env (s.sp env + 1)) env ((s.setSp env (s.sp env + 1)).sp env + 1) (sizeOfCode sf) = .ok a := by
    rw [memRead_above_pulled, BitVec.add_assoc]
    exact ha
  have hpull2 := pull_of_memRead (sizeOfCode_pos sf) hnext
  rw [State.sp_setSp_same, setSp_setSp, setSp_low_add] at hpull2
  simp only [pullFrame, pull_of_memRead (by decide) hx, hsf, hcode, if_neg hlegal, if_neg hpriv,
    show word 1 = 1 from rfl, hpull2]

end Frame

theorem State.w_eq (s : State) : s.w = 8 * s.wBytes := by
  rw [State.w, State.wBytes]
  cases s.cfg.width <;> rfl

/-! ### RTU -/

/-- What RTU leaves (R691). -/
theorem commitRtu_setSp (s : State) (env : Env) (v target : Word) (h p : Bool) (sf : BitVec 2) :
    (((((s.setSp env v).setH h).setP p).setSf sf).unlink).setPc target = { s.setSp env v with
      pc := low s.w target
      sr := { s.sr with sf := sf, h := h || !s.cfg.hyp, p := p || !s.cfg.hyp }
      link := none } := by
  have hcommit : ∀ t : State, ((((t.setH h).setP p).setSf sf).unlink).setPc target = { t with
      pc := low t.w target
      sr := { t.sr with sf := sf, h := h || !t.cfg.hyp, p := p || !t.cfg.hyp }
      link := none } := fun t => by
    simp only [State.setPc, State.unlink, State.setSf, State.setP, State.setH, State.w]
  simp only [hcommit, State.setSp_w, State.setSp_sr, State.setSp_cfg]

/-- The state after RTU has pulled an address `a` of code `sf` (R691). -/
theorem returnFromTrap_of_memRead {s : State} {env : Env} (henv : pullEnv s = env) {x a : Word} {sf : BitVec 2}
    (hx : memRead s env (s.sp env + 1) 1 = .ok x) (hsf : x.setWidth 2 = sf) (h0 : sf ≠ 0) (hk : sizeOfCode sf ≤ s.wBytes)
    (hpriv : ¬ (env = .user ∧ x.getLsbD 3 = true)) (ha : memRead s env (s.sp env + 2) (sizeOfCode sf) = .ok a) :
    returnFromTrap s = .ok { s.setSp env (s.sp env + 1 + word (sizeOfCode sf)) with
      pc := wrap s.w (signed (8 * sizeOfCode sf) a.toNat + 1)
      sr := { s.sr with
        sf := sf
        h := (env != .user && x.getLsbD 3) || !s.cfg.hyp
        p := (env != .user && x.getLsbD 2) || !s.cfg.hyp }
      link := none } := by
  have hwidth : 8 * sizeOfCode sf ≤ s.w := by rw [State.w_eq]; omega
  have htarget : low s.w (signExt (8 * sizeOfCode sf) s.w a + 1) = wrap s.w (signed (8 * sizeOfCode sf) a.toNat + 1) :=
    low_signExt_add_one hwidth s.w_le (memRead_lt ha)
  rw [returnFromTrap, henv, pullFrame_of_memRead hx hsf h0 hk hpriv ha]
  simp only [commitRtu_setSp, Frame.target, htarget]

/-- RTU stops where its frame does. -/
theorem returnFromTrap_of_stop {s : State} {x : Stop} (h : pullFrame s (pullEnv s) = halt s x) :
    returnFromTrap s = halt s x := by
  rw [returnFromTrap, h]
  rfl

theorem ne_user_pullsFrom (s : State) : (pullsFrom s != .user) = decide (pullsFrom s = .hyp) := by
  rcases pullsFrom_cases s with h | h <;> rw [h] <;> rfl

/-- Settles O58: RTU is the pull of one frame, whose three outcomes are the three clauses. -/
theorem returnToUserRestores : Obligations.ReturnToUserRestores := by
  intro p s x a hwf hp env sp sf k hx
  have hrtu : HasBody (.rtu p) s returnFromTrap := rfl
  have henv : pullEnv (past (.rtu p) s) = env := pullEnv_eq s
  have hx' : memRead (past (.rtu p) s) env ((past (.rtu p) s).sp env + 1) 1 = .ok x := (memRead_past ..).trans hx
  have hsf : x.setWidth 2 = sf := (BitVec.ofNat_toNat ..).symm
  refine ⟨fun h => ?_, fun h0 hk huser hbit => ?_, fun h0 hk hpriv ha => ?_⟩
  · exact exec_eq_refused hrtu hp (returnFromTrap_of_stop (henv ▸ pullFrame_reserved hx' hsf h))
  · exact exec_eq_abort hrtu hp (returnFromTrap_of_stop (henv ▸ pullFrame_privrti hx' hsf h0 hk ⟨huser, hbit⟩))
  · rw [← ne_user_pullsFrom]
    exact exec_eq_next hrtu hp (returnFromTrap_of_memRead henv hx' hsf h0 hk hpriv ((memRead_past ..).trans ha))

/-! ### RTI -/

/-- The flags that RTI takes from a status byte (R692). -/
def loadedFlags (r : Status) (st : Word) : Status :=
  { r with n := st.getLsbD 7, v := st.getLsbD 6, d := st.getLsbD 3, i := st.getLsbD 2, z := st.getLsbD 1, c := st.getLsbD 0 }

theorem load_setWidth (r : Status) (st : Word) : r.load (st.setWidth 8) = loadedFlags r st := by
  simp [Status.load, loadedFlags]

/-- What RTI leaves (R692). -/
theorem commitRti_setSp (s : State) (env : Env) (v st target : Word) (h p : Bool) (sf : BitVec 2) :
    commitRti s (s.setSp env v) (st.setWidth 8) h p sf target = { s.setSp env v with
      pc := low s.w target
      sr := { loadedFlags s.sr st with sf := sf, h := h || !s.cfg.hyp, p := p && s.isHyp || !s.cfg.hyp }
      eim := if s.isHyp then s.imr else s.eim
      link := none } := by
  have hcommit : ∀ t : State, commitRti s t (st.setWidth 8) h p sf target = { t with
      pc := low t.w target
      sr := { loadedFlags t.sr st with sf := sf, h := h || !t.cfg.hyp, p := p && s.isHyp || !t.cfg.hyp }
      eim := if s.isHyp then s.imr else t.eim
      link := none } := fun t => by
    simp only [commitRti, load_setWidth, loadedFlags, State.setPc, State.unlink, State.setP, State.setH, State.w]
  simp only [hcommit, State.setSp_w, State.setSp_sr, State.setSp_cfg, State.setSp_eim]

section Rti

variable {s : State} {env : Env} (henv : pullEnv s = env) {st : Word} (hst : memRead s env (s.sp env + 1) 1 = .ok st)
include henv hst

/-- RTI from the 6502 frame: the mode bits stay (R692, R693). -/
theorem returnFromInterrupt_compat (hmode : s.cfg.hyp = false → s.sr.h = true ∧ s.sr.p = true)
    (h5 : st.getLsbD 5 = true) {a : Word} (ha : memRead s env (s.sp env + 2) 2 = .ok a) :
    returnFromInterrupt s = .ok { s.setSp env (s.sp env + 3) with
      pc := signedTarget s a
      sr := { loadedFlags s.sr st with p := s.isHyp && s.prevHyp }
      eim := if s.isHyp then s.imr else s.eim
      link := none } := by
  have hnext : memRead (s.setSp env (s.sp env + 1)) env ((s.setSp env (s.sp env + 1)).sp env + 1) 2 = .ok a := by
    rw [memRead_above_pulled, BitVec.add_assoc]
    exact ha
  have hpull2 := pull_of_memRead (by decide) hnext
  rw [State.sp_setSp_same, setSp_setSp, setSp_low_add, BitVec.add_assoc, show 1 + word 2 = 3 from rfl] at hpull2
  have htarget : low s.w (s.sext16 a) = signedTarget s a := by
    rw [State.sext16, low_signExt]
    exact signExt_eq_wrap s.w_ge s.w_le (memRead_lt ha)
  have hh : (s.isHyp || !s.cfg.hyp) = s.sr.h := by
    cases hhyp : s.cfg.hyp <;> simp [State.isHyp, hhyp, hmode]
  have hpbit : (s.prevHyp && s.isHyp || !s.cfg.hyp) = (s.isHyp && s.prevHyp) := by
    cases hhyp : s.cfg.hyp <;> simp [State.isHyp, State.prevHyp, hhyp, Bool.and_comm]
  simp only [returnFromInterrupt, henv, pull_of_memRead (by decide) hst, h5, if_true, show word 1 = 1 from rfl, hpull2,
    commitRti_setSp, hh, hpbit, htarget]
  rfl

/-- RTI stops where the extended frame above the status byte does. -/
theorem returnFromInterrupt_of_stop (h5 : st.getLsbD 5 = false) {y : Stop}
    (h : pullFrame (s.setSp env (s.sp env + 1)) env = halt (s.setSp env (s.sp env + 1)) y) :
    returnFromInterrupt s = halt s y := by
  simp only [returnFromInterrupt, henv, pull_of_memRead (by decide) hst, h5, Bool.false_eq_true, if_false,
    show word 1 = 1 from rfl, h, halt, State.setSp_mem]

/-- RTI from an extended frame with an address `a` of code `sf` (R692). -/
theorem returnFromInterrupt_of_memRead (h5 : st.getLsbD 5 = false) {x a : Word} {sf : BitVec 2}
    (hx : memRead s env (s.sp env + 2) 1 = .ok x) (hsf : x.setWidth 2 = sf) (h0 : sf ≠ 0) (hk : sizeOfCode sf ≤ s.wBytes)
    (hpriv : ¬ (env = .user ∧ x.getLsbD 3 = true)) (ha : memRead s env (s.sp env + 3) (sizeOfCode sf) = .ok a) :
    returnFromInterrupt s = .ok { s.setSp env (s.sp env + 2 + word (sizeOfCode sf)) with
      pc := wrap s.w (signed (8 * sizeOfCode sf) a.toNat)
      sr := { loadedFlags s.sr st with
        sf := sf
        h := (env != .user && x.getLsbD 3) || !s.cfg.hyp
        p := (env != .user && x.getLsbD 2 && s.isHyp) || !s.cfg.hyp }
      eim := if s.isHyp then s.imr else s.eim
      link := none } := by
  have hwidth : 8 * sizeOfCode sf ≤ s.w := by rw [State.w_eq]; omega
  have htarget : low s.w (signExt (8 * sizeOfCode sf) s.w a) = wrap s.w (signed (8 * sizeOfCode sf) a.toNat) := by
    rw [low_signExt]
    exact signExt_eq_wrap hwidth s.w_le (memRead_lt ha)
  have hframe := pullFrame_of_memRead (s := s.setSp env (s.sp env + 1)) (env := env)
    (by rw [memRead_above_pulled, BitVec.add_assoc]; exact hx) hsf h0 (by rw [State.wBytes, State.setSp_cfg]; exact hk) hpriv
    (by rw [memRead_setSp, State.sp_setSp_same, memRead_low_add, BitVec.add_assoc]; exact ha)
  have hsp : (s.setSp env (s.sp env + 1)).setSp env ((s.setSp env (s.sp env + 1)).sp env + 1 + word (sizeOfCode sf)) =
      s.setSp env (s.sp env + 2 + word (sizeOfCode sf)) := by
    rw [State.sp_setSp_same, setSp_setSp, BitVec.add_assoc, setSp_low_add, ← BitVec.add_assoc, BitVec.add_assoc (s.sp env) 1 1]
    rfl
  simp only [returnFromInterrupt, henv, pull_of_memRead (by decide) hst, h5, Bool.false_eq_true, if_false,
    show word 1 = 1 from rfl, hframe, hsp, commitRti_setSp, Frame.target, htarget]

end Rti

/-- Settles O57: bit 5 of the status byte chooses the pull of two bytes or of a frame, whose three outcomes are the clauses. -/
theorem returnFromInterruptRestores : Obligations.ReturnFromInterruptRestores := by
  intro p s st x a hwf hp env sp flags eim hst
  have hrti : HasBody (.rti p) s returnFromInterrupt := rfl
  have henv : pullEnv (past (.rti p) s) = env := pullEnv_eq s
  have hmode := ((statusOk_iff s).1 (GoodState.of_wellFormed hwf).status).2.2
  have hst' : memRead (past (.rti p) s) env ((past (.rti p) s).sp env + 1) 1 = .ok st := (memRead_past ..).trans hst
  refine ⟨fun h5 ha => ?_, fun h5 hx => ?_⟩
  · exact exec_eq_next hrti hp (returnFromInterrupt_compat henv hst' hmode h5 ((memRead_past ..).trans ha))
  · intro sf k
    have hsf : x.setWidth 2 = sf := (BitVec.ofNat_toNat ..).symm
    have hx' : memRead ((past (.rti p) s).setSp env (sp + 1)) env (((past (.rti p) s).setSp env (sp + 1)).sp env + 1) 1 = .ok x := by
      rw [memRead_above_pulled, memRead_past, BitVec.add_assoc]
      exact hx
    have hbytes : ((past (.rti p) s).setSp env (sp + 1)).wBytes = s.wBytes := by rw [State.wBytes, State.setSp_cfg]; rfl
    refine ⟨fun h => ?_, fun h0 hk huser hbit => ?_, fun h0 hk hpriv ha => ?_⟩
    · exact exec_eq_refused hrti hp (returnFromInterrupt_of_stop henv hst' h5 (pullFrame_reserved hx' hsf (hbytes ▸ h)))
    · exact exec_eq_abort hrti hp
        (returnFromInterrupt_of_stop henv hst' h5 (pullFrame_privrti hx' hsf h0 (hbytes ▸ hk) ⟨huser, hbit⟩))
    · rw [← ne_user_pullsFrom]
      exact exec_eq_next hrti hp (returnFromInterrupt_of_memRead henv hst' h5 ((memRead_past ..).trans hx) hsf h0 hk hpriv
        ((memRead_past ..).trans ha))

end Sys2Proof.Machine
end

section
/-! Translation by containers (R118 to R126, R129). -/

namespace Sys2Proof.Machine

open Sys2Proof.Claims

/-- The key of an access: its address with bits 7:0 replaced by the match code (R118). -/
theorem withLowByte_eq_word (a : Word) (b : Byte) : withLowByte a b = word (a.toNat / 256 * 256 + b.toNat) := by
  have hb : (b.setWidth 64 : Word).toNat = b.toNat := by simp; have := b.isLt; omega
  have hinsert : withLowByte a b = insertLow 8 a (b.setWidth 64) := by
    rw [insertLow, low_eq_self (by rw [hb]; exact b.isLt), withLowByte]
  rw [← word_toNat_eq (withLowByte a b), hinsert, insertLow_toNat, hb, Nat.mod_eq_of_lt b.isLt]
  rfl

theorem matchCode_eq (s : State) (env : Env) : s.matchCode env = if env = .user then s.muCode else s.mh := by
  cases env <;> rfl

theorem Container.matchesKey_iff (c : Container) (key : Word) :
    c.matchesKey key = true ↔ key &&& c.mask = c.cmp ∧ c ≠ { mask := 0, cmp := 0, off := 0 } := by
  obtain ⟨mask, cmp, off⟩ := c
  simp only [Container.matchesKey, Bool.and_eq_true, beq_iff_eq, Bool.not_eq_true', Bool.and_eq_false_iff, beq_eq_false_iff_ne, ne_eq,
    Container.mk.injEq]
  tauto

/-- With containers, an access is decided by the search with its key (R118, R129). -/
theorem translate_eq_search {s : State} {env : Env} (henv : env ≠ .phys) (hn : s.cfg.ncont ≠ 0) (ea : Word) (kind : Access) :
    translate s env ea kind = searchContainers env ea
      (word (ea.toNat / 256 * 256 + (if env = .user then s.muCode else s.mh).toNat)) kind s.cont false := by
  rw [translate, if_neg (by simp [henv, hn]), withLowByte_eq_word, matchCode_eq]

/-- A container that an access does not see: it does not match, or it is the hypervisor's and the access the user's (R122). -/
def Container.passedOver (env : Env) (key : Word) (c : Container) : Prop :=
  c.matchesKey key = true → env = .user ∧ c.off.getLsbD 1 = true

/-- The search goes past containers that the access does not see, and notes whether one of them matched (R122, R129). -/
theorem searchContainers_append {env : Env} {key : Word} (ea : Word) (kind : Access) (rest : List Container) :
    ∀ (before : List Container) (skipped : Bool), (∀ c ∈ before, c.passedOver env key) →
      searchContainers env ea key kind (before ++ rest) skipped =
        searchContainers env ea key kind rest (skipped || before.any (·.matchesKey key))
  | [], skipped, _ => by simp
  | c :: before, skipped, h => by
    have hrest := fun k => searchContainers_append ea kind rest before k fun d hd => h d (.tail _ hd)
    rw [List.cons_append, searchContainers, List.any_cons]
    by_cases hc : c.matchesKey key = true
    · obtain ⟨henv, hbit⟩ := h c (.head _) hc
      have hhidden : (c.off.getLsbD 1 && env == .user) = true := by rw [hbit, henv]; rfl
      rw [if_pos hc, if_pos hhidden, hrest, hc, Bool.true_or, Bool.or_true]
    · rw [if_neg hc, hrest, Bool.eq_false_of_not_eq_true hc, Bool.false_or]

/-- A search that sees no container (R122, R129). -/
theorem searchContainers_unseen {env : Env} {key : Word} (ea : Word) (kind : Access) {cs : List Container}
    (h : ∀ c ∈ cs, c.passedOver env key) : searchContainers env ea key kind cs false =
      if cs.any (·.matchesKey key) then .error .privmem else .ok (some ea) := by
  have happend := searchContainers_append ea kind [] cs false h
  rwa [List.append_nil, Bool.false_or] at happend

/-- The first container that the access sees decides it (R119 to R126). -/
theorem searchContainers_seen {env : Env} {key : Word} {c : Container} (hc : ¬ c.passedOver env key) (ea : Word)
    (kind : Access) (after : List Container) (skipped : Bool) : searchContainers env ea key kind (c :: after) skipped =
      if c.off.getLsbD 0 = false then .error .nomem
      else if kind = .fetch ∧ c.off.getLsbD 4 = true then .error .noexec
      else if kind = .write ∧ c.off.getLsbD 2 = true then (if c.off.getLsbD 3 = true then .error .wprot else .ok none)
      else .ok (some (ea ||| word (c.off.toNat / 256 * 256))) := by
  obtain ⟨hmatch, hseen⟩ := Classical.not_imp.1 hc
  have hhidden : ¬ (c.off.getLsbD 1 && env == .user) = true := by
    rw [Bool.and_eq_true, beq_iff_eq, and_comm]
    exact hseen
  rw [searchContainers, if_pos hmatch, if_neg hhidden]
  simp [withLowByte_eq_word]

/-- Settles O13: no container is seen, and the search ends with PRIVMEM exactly if it passed over a matching one. -/
theorem translationWithoutAnEffectiveContainer : Obligations.TranslationWithoutAnEffectiveContainer := by
  intro s env ea kind henv key hits
  have hhits : ∀ c : Container, c.matchesKey key = true ↔ hits c := fun c => c.matchesKey_iff key
  refine ⟨fun h => ?_, fun hn huser hmatch hhidden => ?_⟩
  · rcases h with hn | hnone
    · rw [translate, if_pos (.inr hn)]
    · by_cases hn : s.cfg.ncont = 0
      · rw [translate, if_pos (.inr hn)]
      · have hunmatched : ∀ c ∈ s.cont, ¬ c.matchesKey key = true := fun c hc hm => hnone c hc ((hhits c).1 hm)
        rw [translate_eq_search henv hn, searchContainers_unseen ea kind fun c hc hm => absurd hm (hunmatched c hc),
          if_neg (by simpa using hunmatched)]
  · obtain ⟨c, hc, hit⟩ := hmatch
    rw [translate_eq_search henv hn,
      searchContainers_unseen ea kind fun d hd hm => ⟨huser, hhidden d hd ((hhits d).1 hm)⟩,
      if_pos (List.any_eq_true.2 ⟨c, hc, (hhits c).2 hit⟩)]

/-- Settles O14: the search goes past the containers before the first one seen, which then decides. -/
theorem translationByTheEffectiveContainer : Obligations.TranslationByTheEffectiveContainer := by
  intro s env ea kind before after c henv hn hcont key hits hbefore hc
  have hseen : ∀ d : Container, ¬ d.passedOver env key ↔ hits d := fun d => by
    rw [Container.passedOver, Classical.not_imp, d.matchesKey_iff, and_assoc]
  have hpassed : ∀ d ∈ before, d.passedOver env key := fun d hd => not_not.1 fun h => hbefore d hd ((hseen d).1 h)
  rw [translate_eq_search henv hn, hcont, searchContainers_append ea kind _ before false hpassed,
    searchContainers_seen ((hseen c).2 hc)]

end Sys2Proof.Machine
end

section
/-! Multi-byte reads and stopped writes, byte by byte (R104, R107, R108, R127). -/

namespace Sys2Proof.Machine

open Sys2Proof.Claims

/-! ### Reads -/

/-- At most eight bytes, put together and taken apart again (R104). -/
theorem littleEndian_ofBytes : ∀ bs : List Byte, bs.length ≤ 8 → littleEndian bs.length (ofBytes bs).toNat = bs
  | [], _ => rfl
  | b :: bs, h => by
    have hlen : bs.length ≤ 7 := Nat.le_of_succ_le_succ h
    have hlt : (ofBytes bs).toNat < 2 ^ 56 :=
      Nat.lt_of_lt_of_le (ofBytes_lt bs) (Nat.pow_le_pow_right (by decide) (by omega))
    have hvalue : (ofBytes (b :: bs)).toNat = b.toNat + 256 * (ofBytes bs).toNat := by
      rw [ofBytes_cons_toNat, Nat.mod_eq_of_lt hlt]
    have hfirst : BitVec.ofNat 8 (b.toNat + 256 * (ofBytes bs).toNat) = b := by
      apply BitVec.eq_of_toNat_eq
      rw [BitVec.toNat_ofNat, Nat.add_mul_mod_self_left, Nat.mod_eq_of_lt b.isLt]
    have hothers : (b.toNat + 256 * (ofBytes bs).toNat) / 256 = (ofBytes bs).toNat := by
      have := b.isLt
      omega
    rw [List.length_cons, littleEndian_succ, hvalue, hfirst, hothers, littleEndian_ofBytes bs (by omega)]

/-- The bytes of a number are read exactly if each of them is (R107, R108). -/
theorem readBytes_littleEndian_iff (s : State) (env : Env) : ∀ (k n : Nat) (ea : Word),
    readBytes s env (low s.w ea) k = .ok (littleEndian k n) ↔
      ∀ j, j < k → readByte s env (low s.w (ea + word j)) .read = .ok (BitVec.ofNat 8 (n / 256 ^ j))
  | 0, n, ea => by simp [readBytes, littleEndian]
  | k + 1, n, ea => by
    have hfirst : (∀ j, j < k + 1 → readByte s env (low s.w (ea + word j)) .read = .ok (BitVec.ofNat 8 (n / 256 ^ j))) ↔
        readByte s env (low s.w ea) .read = .ok (BitVec.ofNat 8 n) ∧ ∀ j, j < k →
          readByte s env (low s.w (ea + 1 + word j)) .read = .ok (BitVec.ofNat 8 (n / 256 / 256 ^ j)) := by
      rw [Nat.forall_lt_succ_left]
      simp only [word_succ, ← BitVec.add_assoc, Nat.pow_succ', ← Nat.div_div_eq_div_mul, Nat.pow_zero, Nat.div_one]
      simp [word]
    rw [hfirst, ← readBytes_littleEndian_iff s env k, readBytes, littleEndian_succ, low_low_add _ _ _ s.w_le]
    cases readByte s env (low s.w ea) .read with
    | error x => simp
    | ok b => cases readBytes s env (low s.w (ea + 1)) k <;> simp

/-- A read gives a value exactly if it reads the bytes of the value (R104). -/
theorem memRead_eq_ok_iff (s : State) (env : Env) (ea v : Word) {k : Nat} (hk : k ≤ 8) : memRead s env ea k = .ok v ↔
    v.toNat < 2 ^ (8 * k) ∧ readBytes s env (low s.w ea) k = .ok (littleEndian k v.toNat) := by
  constructor
  · intro h
    refine ⟨memRead_lt h, ?_⟩
    unfold memRead at h
    split at h
    · cases h
    · rename_i bs hbs
      cases h
      obtain rfl := readBytes_length s env k _ hbs
      rw [littleEndian_ofBytes bs hk, hbs]
  · rintro ⟨hlt, hbs⟩
    rw [memRead, hbs]
    dsimp only
    rw [← toBytes_eq, ofBytes_toBytes, low_eq_self hlt]

/-- Settles O11: the bytes a read puts together are those of its value, each read at its own address. -/
theorem memReadIsLittleEndian : Obligations.MemReadIsLittleEndian := by
  intro s env ea v k hk
  rw [memRead_eq_ok_iff s env ea v hk, readBytes_littleEndian_iff]

/-! ### Stopped writes -/

/-- Writing the cells of a list one after another to a memory, each byte found as a write of `s` finds it. -/
def writeCells (s : State) (env : Env) : Memory → List (Word × Byte) → Except Halt Memory
  | m, [] => .ok m
  | m, c :: cells => match locate s env (low s.w c.1) .write with
    | .error x => .error { stop := x, mem := m }
    | .ok none => writeCells s env m cells
    | .ok (some q) => writeCells s env (m.store q c.2) cells

/-- Where the first cell that cannot be written is cell `j`, the cells before it have landed (R107, R123). -/
theorem writeCells_of_writable (s : State) (env : Env) {x : Stop} : ∀ (cells : List (Word × Byte)) (m : Memory) (j : Nat)
    (c : Word × Byte), cells[j]? = some c → writable s env (cells.take j) = true →
    locate s env (low s.w c.1) .write = .error x →
    writeCells s env m cells =
      .error { stop := x, mem := (landed s env (cells.take j)).foldl (fun m c => m.store c.1 c.2) m }
  | [], _, _, _, hj, _, _ => nomatch hj
  | c :: cells, m, 0, d, hj, _, hx => by
    cases hj
    rw [writeCells, hx]
    rfl
  | c :: cells, m, j + 1, d, hj, hw, hx => by
    rw [List.take_succ_cons, writable_cons] at hw
    obtain ⟨⟨o, ho⟩, hrest⟩ := hw
    rw [List.getElem?_cons_succ] at hj
    rw [List.take_succ_cons, writeCells, ho]
    cases o with
    | none => rw [landed_cons_dropped ho]; exact writeCells_of_writable s env cells m j d hj hrest hx
    | some q => rw [landed_cons_stored ho]; exact writeCells_of_writable s env cells (m.store q c.2) j d hj hrest hx

/-- A state that differs in memory and a stack pointer finds bytes where the other does. -/
theorem StackMoved.locate_eq {env : Env} {s t : State} (h : StackMoved env s t) (env' : Env) (a : Word) (kind : Access) :
    locate t env' a kind = locate s env' a kind :=
  locate_congr (by rw [h.eq]) (by rw [h.eq]) (by rw [h.eq]) (by rw [h.eq]) ..

theorem StackMoved.w_eq {env : Env} {s t : State} (h : StackMoved env s t) : t.w = s.w := State.w_eq_of_cfg h.cfg

theorem StackMoved.set_mem {env : Env} {s t : State} (h : StackMoved env s t) (m : Memory) :
    StackMoved env s { t with mem := m } := h.trans ⟨rfl, fun _ => rfl, fun _ => rfl, .inl rfl⟩

/-- A write of bytes stops where the writing of its cells does. -/
theorem writeBytes_of_writeCells {s : State} {env : Env} {h : Halt} : ∀ (bs : List Byte) {t : State} (ea : Word),
    StackMoved env s t → writeCells s env t.mem (upward ea bs) = .error h → writeBytes t env (low s.w ea) bs = .error h
  | [], _, _, _, hcells => nomatch hcells
  | b :: bs, t, ea, ht, hcells => by
    have hnext : low t.w (low s.w ea + 1) = low s.w (ea + 1) := by rw [ht.w_eq, low_low_add _ _ _ s.w_le]
    rw [upward_cons, writeCells] at hcells
    rw [writeBytes, writeByte, ht.locate_eq]
    cases hl : locate s env (low s.w ea) .write with
    | error x =>
      rw [hl] at hcells
      cases hcells
      rfl
    | ok o =>
      rw [hl] at hcells
      cases o with
      | none => exact hnext ▸ writeBytes_of_writeCells bs (ea + 1) ht hcells
      | some q => exact hnext ▸ writeBytes_of_writeCells bs (ea + 1) (ht.set_mem (t.mem.store q b)) hcells

theorem memWrite_of_writeCells {s : State} {env : Env} {ea v : Word} {k : Nat} {h : Halt}
    (hcells : writeCells s env s.mem (upward ea (littleEndian k v.toNat)) = .error h) :
    memWrite s env ea k v = .error h := by
  rw [memWrite, toBytes_eq]
  exact writeBytes_of_writeCells _ ea (.refl env s) hcells

theorem upward_getElem? (ea : Word) (bs : List Byte) (j : Nat) :
    (upward ea bs)[j]? = bs[j]?.map fun b => (ea + word j, b) := List.getElem?_mapIdx

/-- Settles O12: the cells of the write before byte `j` land, and byte `j` stops it. -/
theorem memWriteStoppedKeepsEarlierBytes : Obligations.MemWriteStoppedKeepsEarlierBytes := by
  intro s env ea v k j x hm hj hk hw hx
  have hcell : (upward ea (littleEndian k v.toNat))[j]? = some (ea + word j, BitVec.ofNat 8 (v.toNat / 256 ^ j)) := by
    simp [upward_getElem?, littleEndian, hj]
  exact ⟨_, memWrite_of_writeCells (writeCells_of_writable s env _ s.mem j _ hcell hw hx), (stores_iff hm).2 rfl⟩

end Sys2Proof.Machine
end

section
/-! What an instruction that runs in user mode can change (R129, R703, R704): every operation it performs keeps the
hypervisor's part of the state, writes memory in the user environment only, and reaches hypervisor mode by an entry sequence
only. -/

namespace Sys2Proof.Machine

/-! ### The reach of user mode -/

/-- A memory in canonical form that differs from that of `s` only where a user write reaches. -/
structure UserMemory (s : State) (m : Memory) : Prop where
  canonical : m.wf = true
  reached : ∀ q, m.byteAt q ≠ s.mem.byteAt q → s.userWritable q

/-- `u` differs from `s` in the registers of instructions, `SPU`, the pc, the status register, the reservation and such a memory
only. -/
structure UserEffect (s u : State) : Prop where
  eq : u = { s with a := u.a, x := u.x, y := u.y, e := u.e, b := u.b, spu := u.spu, pc := u.pc, sr := u.sr, link := u.link,
                    mem := u.mem }
  memory : UserMemory s u.mem

/-- A state that user code running from `s` can bring about, itself in user mode. -/
structure UserState (s u : State) : Prop where
  effect : UserEffect s u
  mode : u.isHyp = false

/-- A state that an instruction of user mode can go to: in hypervisor mode `P` is clear and there is no reservation. -/
structure UserOutcome (s t : State) : Prop where
  effect : UserEffect s t
  entry : t.isHyp = true → t.sr.p = false ∧ t.link = none

/-- A next state with `Q`, or a stop that leaves a memory user mode can write. -/
def UserResult (s : State) (Q : State → Prop) : Res State → Prop
  | .ok t => Q t
  | .error h => UserMemory s h.mem

theorem UserState.refl {s : State} (hm : s.mem.wf = true) (hmode : s.isHyp = false) : UserState s s :=
  ⟨⟨rfl, hm, fun _ hne => absurd rfl hne⟩, hmode⟩

theorem UserState.outcome {s u : State} (h : UserState s u) : UserOutcome s u :=
  ⟨h.effect, fun hh => absurd (h.mode.symm.trans hh) Bool.false_ne_true⟩

theorem UserResult.mono {s : State} {Q R : State → Prop} {r : Res State} (h : UserResult s Q r) (hQR : ∀ t, Q t → R t) :
    UserResult s R r := by
  cases r with
  | error e => exact h
  | ok t => exact hQR t h

theorem UserResult.outcome {s : State} {r : Res State} (h : UserResult s (UserState s) r) : UserResult s (UserOutcome s) r :=
  h.mono fun _ => UserState.outcome

theorem UserResult.of_ok {s t : State} {Q : State → Prop} {r : Res State} (h : UserResult s Q r) (ht : r = .ok t) : Q t := by
  rw [ht] at h
  exact h

/-- First a read, then what is done with the value read. -/
theorem UserResult.after_read {s u : State} {Q : State → Prop} {r : Res Word} {f : Word → Res State} :
    UserEffect s u → StopsInPlace u r → (∀ v, UserResult s Q (f v)) →
      UserResult s Q (match r with | .error h => .error h | .ok v => f v) := by
  intro hu hr hf
  cases r with
  | error e =>
    change UserMemory s e.mem
    exact hr.mem_eq e rfl ▸ hu.memory
  | ok v => exact hf v

/-- First a step, then what is done from the state it gives. -/
theorem UserResult.after_step {s : State} {Q R : State → Prop} {r : Res State} {f : State → Res State} :
    UserResult s R r → (∀ t, R t → UserResult s Q (f t)) →
      UserResult s Q (match r with | .error h => .error h | .ok t => f t) := by
  intro hr hf
  cases r with
  | error e => exact hr
  | ok t => exact hf t hr

theorem UserResult.of_stop {α : Type} {s u : State} {Q : State → Prop} {r : Res α} (hu : UserEffect s u) (hr : StopsInPlace u r)
    {e : Halt} (he : r = .error e) : UserResult s Q (.error e) := by
  change UserMemory s e.mem
  exact hr.mem_eq e he ▸ hu.memory

/-! ### Updates that stay within reach -/

theorem UserEffect.set {s u : State} (h : UserEffect s u) {a x y e b spu pc : Word} {sr : Status} {link : Option Link} :
    UserEffect s { u with a, x, y, e, b, spu, pc, sr, link } := ⟨by rw [h.eq], h.memory⟩

/-- The mode bit is the one bit of the status register that is not free. -/
theorem UserState.set {s u : State} (h : UserState s u) {a x y e b spu pc : Word} {sr : Status} {link : Option Link}
    (hh : sr.h = u.sr.h) : UserState s { u with a, x, y, e, b, spu, pc, sr, link } := by
  refine ⟨h.effect.set, ?_⟩
  rw [← h.mode]
  simp only [State.isHyp, hh]

theorem UserState.set_memory {s u : State} (h : UserState s u) {m : Memory} (hm : UserMemory s m) :
    UserState s { u with mem := m } := ⟨⟨by rw [h.effect.eq], hm⟩, h.mode⟩

theorem UserOutcome.setPc {s t : State} (h : UserOutcome s t) (v : Word) : UserOutcome s (t.setPc v) := ⟨h.effect.set, h.entry⟩

section Updates

variable {s u : State} (h : UserState s u)
include h

theorem UserState.setReg (r : Reg) (v : Word) : UserState s (u.setReg r v) := by
  cases r <;> exact h.set rfl

theorem UserState.setPc (v : Word) : UserState s (u.setPc v) := h.set rfl

theorem UserState.setSp {env : Env} (henv : env = .user) (v : Word) : UserState s (u.setSp env v) := by
  subst henv
  exact h.set rfl

theorem UserState.unlink : UserState s u.unlink := h.set rfl

theorem UserState.setNZ (fw : Nat) (r : Word) : UserState s (setNZ fw r u) := h.set rfl

theorem UserState.setV (v : Bool) : UserState s (setV v u) := h.set rfl

theorem UserState.setZ (z : Bool) : UserState s (setZ z u) := h.set rfl

theorem UserState.setNVZC (fw : Nat) (q : Sum) : UserState s (setNVZC fw q u) := h.set rfl

theorem UserState.setFlags (k : Step1) (n : Nat) (vc : Word × Bool) : UserState s (k.setFlags n vc u) := by
  unfold Step1.setFlags
  split <;> exact h.set rfl

theorem UserState.setCompare (fw : Nat) (a b : Word) : UserState s (setCompare fw a b u) := by
  unfold Machine.setCompare
  dsimp only
  split <;> exact h.set rfl

/-- NF only leaves the flags as they were (R259). -/
theorem UserState.unlessNf {p : Pfx} {f : State → State} (hf : UserState s (f u)) : UserState s (unlessNf p f u) := by
  unfold Machine.unlessNf
  split
  · exact h
  · exact hf

/-- The current environment in user mode (R8). -/
theorem UserState.cur : u.cur = .user := if_neg (by simp [h.mode])

/-- So is the data environment, whether or not UM is set (R232). -/
theorem UserState.denv (p : Pfx) : u.denv p = .user := by
  unfold State.denv
  split
  · rfl
  · exact h.cur

theorem UserState.pullEnv : pullEnv u = .user := if_neg (by simp [h.mode])

end Updates

/-! ### Accesses -/

/-- A user write reaches the byte it stores. -/
theorem UserMemory.store {s : State} {m : Memory} (hm : UserMemory s m) {a : Word} {q : Nat} (ha : low s.w a = a)
    (hq : locate s .user a .write = .ok (some q)) (v : Byte) : UserMemory s (m.store q v) where
  canonical := Memory.wf_store hm.canonical q v
  reached p hne := by
    rw [Memory.byteAt_store hm.canonical] at hne
    split at hne
    · rename_i hpq
      exact ⟨a, by rw [ha, hpq, hq]⟩
    · exact hm.reached p hne

section Accesses

variable {s u : State} (h : UserEffect s u)
include h

theorem UserEffect.w_eq : u.w = s.w := State.w_eq_of_cfg (by rw [h.eq])

theorem UserEffect.locate_eq (env : Env) (a : Word) (kind : Access) : locate u env a kind = locate s env a kind :=
  locate_congr (by rw [h.eq]) (by rw [h.eq]) (by rw [h.eq]) (by rw [h.eq]) ..

/-- A write found from `u` is one of user mode from `s`. -/
theorem UserEffect.store {m : Memory} {a : Word} {q : Nat} {v : Byte} (ha : low u.w a = a)
    (hq : locate u .user a .write = .ok (some q)) (hm : UserMemory s m) : UserMemory s (m.store q v) :=
  hm.store (h.w_eq ▸ ha) (h.locate_eq .. ▸ hq) v

end Accesses

section Operations

variable {s u : State} (h : UserState s u) {env : Env} (henv : env = .user)
include h henv

theorem UserState.memWrite (ea : Word) (k : Nat) (v : Word) : UserResult s (UserState s) (memWrite u env ea k v) := by
  subst henv
  obtain ⟨hok, herror⟩ := writeBytes_keeps .user (UserMemory s) (toBytes k v) (s := u) (low_low u.w ea) h.effect.memory
    fun _ _ _ _ => h.effect.store
  cases hw : Machine.memWrite u .user ea k v with
  | error e => exact herror hw
  | ok t =>
    rw [memWrite_ok hw]
    exact h.set_memory (hok hw)

theorem UserState.push (k : Nat) (v : Word) : UserResult s (UserState s) (push u env k v) := by
  subst henv
  obtain ⟨hok, herror⟩ := pushBytes_keeps .user (UserMemory s) (toBytes k v).reverse (s := u) h.effect.memory
    fun _ _ _ _ => h.effect.store
  cases hp : Machine.push u .user k v with
  | error e => exact herror hp
  | ok t =>
    have hmoved := push_ok hp
    have hspu : UserState s { u with spu := t.spu } := h.set rfl
    have ht : t = { u with spu := t.spu, mem := t.mem } := by rw [hmoved.eq, hmoved.sph rfl]
    rw [ht]
    exact hspu.set_memory (hok hp)

theorem UserState.pull {t : State} {k : Nat} {v : Word} (hp : pull u env k = .ok (v, t)) : UserState s t := by
  obtain ⟨-, rfl | ⟨sp, rfl⟩⟩ := pull_ok hp
  · exact h
  · exact h.setSp henv sp

theorem UserState.pullFrame {f : Frame} (hf : pullFrame u env = .ok f) : UserState s f.after := by
  unfold Machine.pullFrame at hf
  split at hf
  · cases hf
  · rename_i x s1 hpull
    dsimp only at hf
    split_ifs at hf
    · cases hf
    · cases hf
    · split at hf
      · cases hf
      · rename_i a s2 hpull2
        cases hf
        exact (h.pull henv hpull).pull henv hpull2

end Operations

/-! ### Exceptions and returns -/

/-- An abort refused inside an entry sequence leaves memory as the abort found it (R667). -/
theorem UserResult.asEntry {Q : State → Prop} {r : Res State} (hr : UserResult s Q r) : UserResult s Q (asEntry r) := by
  cases r with
  | ok t => exact hr
  | error e =>
    change UserMemory s e.mem at hr
    unfold Machine.asEntry
    dsimp only
    split <;> exact hr

section Exceptions

variable {s u : State} (h : UserState s u)
include h

/-- Entering hypervisor mode from user mode leaves `P` clear and no reservation (R680). -/
theorem UserState.entered {t : State} (ht : UserState s t) : UserOutcome s ((t.setP u.isHyp).setH true).unlink := by
  refine ⟨ht.effect.set, fun _ => ⟨?_, rfl⟩⟩
  have hopt := ht.mode
  simp only [State.isHyp, Bool.or_eq_false_iff] at hopt
  simp [h.mode, hopt.2]

theorem UserState.enterExtended (ret : Word) (status : Option Bool) :
    UserResult s (UserOutcome s) (enterExtended u ret status) := by
  have hsf : UserState s (u.setSf (frameCode (frameBytes u.cfg ret))) := h.set rfl
  refine (hsf.push h.cur ..).after_step fun s1 h1 => (h1.push h.cur ..).after_step fun s2 h2 => ?_
  cases status with
  | none => exact h.entered h2
  | some b => exact (h2.push h.cur ..).after_step fun s3 h3 => h.entered h3

theorem UserState.enterCompat (ret : Word) (b : Bool) : UserResult s (UserState s) (enterCompat u ret b) :=
  (h.push h.cur ..).after_step fun _ h1 => (h1.push h.cur ..).after_step fun _ h2 => h2.set rfl

theorem UserState.enterAbort (pcNext : Word) (k : AbortKind) : UserResult s (UserOutcome s) (enterAbort u pcNext k) :=
  (h.enterExtended ..).after_step fun _ ht => .after_read ht.effect (abortTarget_stopsInPlace ..) fun v => ht.setPc v

theorem UserState.takeTrap (t : Word) : UserResult s (UserOutcome s) (takeTrap t u) := by
  unfold Machine.takeTrap
  split
  · refine UserResult.asEntry ?_
    exact (h.enterExtended ..).after_step fun _ ht => .after_read ht.effect (trapTarget_stopsInPlace ..) fun v => ht.setPc v
  · exact h.effect.memory

theorem UserState.takeBreak : UserResult s (UserOutcome s) (takeBreak u) := by
  have hframe : UserResult s (UserOutcome s)
      (if u.ivAct then Machine.enterExtended u (low u.w (u.pc + 1)) (some true) else Machine.enterCompat u (low u.w (u.pc + 1)) true) := by
    split
    · exact h.enterExtended ..
    · exact (h.enterCompat ..).outcome
  exact UserResult.asEntry (hframe.after_step fun t ht =>
    .after_read ht.effect (breakTarget_stopsInPlace t) fun v => ht.setPc v)

/-- RTI in user mode keeps `EIM`, and its frame cannot set `H` (R692, R694). -/
theorem UserState.commitRti {t : State} (ht : UserState s t) (status : Byte) (p : Bool) (sf : BitVec 2) (target : Word) :
    UserState s (commitRti u t status false p sf target) := by
  have heim : (if u.isHyp then u.imr else t.eim) = t.eim := by rw [h.mode]; rfl
  have hopt := ht.mode
  simp only [State.isHyp, Bool.or_eq_false_iff] at hopt
  unfold Machine.commitRti
  simp only [heim]
  exact ht.set (by simp [hopt])

@[simp] theorem UserState.returnFromInterrupt : UserResult s (UserState s) (returnFromInterrupt u) := by
  unfold Machine.returnFromInterrupt
  split
  · rename_i e herror
    exact .of_stop h.effect (pull_stopsInPlace ..) herror
  · rename_i x s1 h1
    have hs1 := h.pull h.pullEnv h1
    split_ifs
    · split
      · rename_i e herror
        exact .of_stop hs1.effect (pull_stopsInPlace ..) herror
      · rename_i a s2 h2
        rw [h.mode]
        exact h.commitRti (hs1.pull h.pullEnv h2) ..
    · split
      · rename_i e herror
        exact .of_stop hs1.effect (pullFrame_stopsInPlace ..) herror
      · rename_i f hf
        obtain ⟨-, -, -, huser⟩ := pullFrame_ok hf
        obtain ⟨hh, -⟩ := huser h.pullEnv
        have hcommit := h.commitRti (hs1.pullFrame h.pullEnv hf) (x.setWidth 8) f.p f.sf (f.target u)
        rw [hh]
        exact hcommit

end Exceptions

/-! ### The meanings of the instructions that user mode may run -/

section Bodies

variable {s u : State} (h : UserState s u) (p : Pfx) (f : Format) (op v : Word)
include h

theorem UserState.refused (r : Refusal) {Q : State → Prop} : UserResult s Q (refuse u r) := h.effect.memory

@[simp] theorem UserState.withWidth {body : State → Res State} (hbody : UserResult s (UserState s) (body u)) :
    UserResult s (UserState s) (withWidth p body u) := by
  unfold Machine.withWidth
  split
  · exact h.refused _
  · exact hbody

@[simp] theorem UserState.negateBody : UserResult s (UserState s) (negateBody p u) := by
  unfold Machine.negateBody
  split <;> exact (h.setReg ..).unlessNf ((h.setReg ..).setNZ ..)

@[simp] theorem UserState.extendBody : UserResult s (UserState s) (extendBody p u) := by
  unfold Machine.extendBody
  split
  · exact h.unlessNf (h.setNZ ..)
  · exact (h.setReg ..).unlessNf ((h.setReg ..).setNZ ..)

theorem UserState.replaceLow : UserState s (replaceLow p v u) := (h.setReg ..).unlessNf ((h.setReg ..).setNZ ..)

@[simp] theorem UserState.swapBytesBody : UserResult s (UserState s) (swapBytesBody p u) := h.replaceLow ..

@[simp] theorem UserState.countBody : UserResult s (UserState s) (countBody p u) := h.replaceLow ..

@[simp] theorem UserState.countMemBody : UserResult s (UserState s) (countMemBody p u) :=
  .after_read h.effect (memRead_stopsInPlace ..) fun _ => h.replaceLow ..

@[simp] theorem UserState.addrBody (r : Reg) (imm sub : Bool) : UserResult s (UserState s) (addrBody r imm sub p v u) :=
  (h.setReg ..).unlessNf ((h.setReg ..).setNVZC ..)

@[simp] theorem UserState.stackAddrBody (imm sub : Bool) : UserResult s (UserState s) (stackAddrBody imm sub p v u) :=
  (h.setSp h.cur _).unlessNf ((h.setSp h.cur _).setNVZC ..)

@[simp] theorem UserState.leaBody : UserResult s (UserState s) (leaBody f p op u) :=
  .after_read h.effect (effectiveAddress_stopsInPlace ..) fun _ => (h.setReg ..).unlessNf ((h.setReg ..).setNZ ..)

@[simp] theorem UserState.peaBody : UserResult s (UserState s) (peaBody f p op u) :=
  .after_read h.effect (effectiveAddress_stopsInPlace ..) fun _ => h.push (h.denv p) ..

@[simp] theorem UserState.logicBody (g : Word → Word → Word) : UserResult s (UserState s) (logicBody g f p op u) :=
  .after_read h.effect (sourceOperand_stopsInPlace ..) fun _ => (h.setReg ..).unlessNf ((h.setReg ..).setNZ ..)

@[simp] theorem UserState.addBody (sub : Bool) : UserResult s (UserState s) (addBody sub f p op u) := by
  unfold Machine.addBody
  split
  · exact h.refused _
  · exact .after_read h.effect (sourceOperand_stopsInPlace ..) fun _ => (h.setReg ..).unlessNf ((h.setReg ..).setNVZC ..)

@[simp] theorem UserState.compareBody (r : Reg) : UserResult s (UserState s) (compareBody r f p op u) :=
  .after_read h.effect (sourceOperand_stopsInPlace ..) fun _ => h.setCompare ..

@[simp] theorem UserState.bitBody : UserResult s (UserState s) (bitBody f p op u) := by
  refine .after_read h.effect (sourceOperand_stopsInPlace ..) fun m => h.unlessNf ?_
  dsimp only
  split <;> exact h.set rfl

@[simp] theorem UserState.bitAccum : UserResult s (UserState s) (bitAccum p u) := h.unlessNf (h.set rfl)

/-- A block instruction of user mode moves and fills in the current environment (R540 to R543). -/
theorem UserState.moveByte : UserResult s (UserState s) (moveByte u.cur u.cur v u) :=
  .after_read h.effect (memRead_stopsInPlace ..) fun _ =>
    (h.memWrite h.cur ..).after_step fun _ ht => (ht.setReg ..).setReg ..

theorem UserState.fillElement (nb : Nat) : UserResult s (UserState s) (fillElement u.cur nb u) :=
  (h.memWrite h.cur ..).after_step fun _ ht => ht.setReg ..

theorem UserState.blockStep (start dec : Word) {body : State → Res State}
    (hbody : UserResult s (UserState s) (body u)) : UserResult s (UserState s) (blockStep start dec body u) := by
  unfold Machine.blockStep
  split
  · exact h
  · refine hbody.after_step fun t ht => ?_
    dsimp only
    split
    · exact ht.setReg ..
    · exact (ht.setReg ..).setPc _

@[simp] theorem UserState.fillBody (start : Word) : UserResult s (UserState s) (fillBody start p u) := by
  unfold Machine.fillBody
  split
  · exact h.blockStep _ _ (h.fillElement _)
  · split
    · exact h.blockStep _ _ (h.fillElement _)
    · exact h.refused _

@[simp] theorem UserState.branchBody (taken : Bool) : UserResult s (UserState s) (branchBody taken p op u) := by
  unfold Machine.branchBody
  split
  · exact h.setPc _
  · exact h

@[simp] theorem UserState.jumpBody : UserResult s (UserState s) (jumpBody f p op u) :=
  .after_read h.effect (effectiveAddress_stopsInPlace ..) fun _ => h.setPc _

theorem UserState.callTo {target : Res Word} (htarget : StopsInPlace u target) :
    UserResult s (UserState s) (callTo p target u) := by
  unfold Machine.callTo
  split
  · exact h.refused _
  · exact .after_read h.effect htarget fun _ => (h.push (h.denv p) ..).after_step fun _ ht => ht.setPc _

@[simp] theorem UserState.callBody : UserResult s (UserState s) (callBody f p op u) :=
  h.callTo p (effectiveAddress_stopsInPlace ..)

@[simp] theorem UserState.branchCallBody : UserResult s (UserState s) (branchCallBody f p op u) :=
  h.callTo p (stopsInPlace_ok ..)

@[simp] theorem UserState.returnBody : UserResult s (UserState s) (returnBody p u) := by
  unfold Machine.returnBody
  split
  · exact h.refused _
  · split
    · rename_i e herror
      exact .of_stop h.effect (pull_stopsInPlace ..) herror
    · rename_i ra t hpull
      exact (h.pull h.cur hpull).setPc _

/-- The flag instructions leave `H` alone (R380 to R387). -/
theorem UserState.statusBody {g : Status → Status} (hg : (g u.sr).h = u.sr.h) :
    UserResult s (UserState s) (statusBody g u) := h.set hg

@[simp] theorem UserState.barrierBody : UserResult s (UserState s) (barrierBody u) := h

@[simp] theorem UserState.loadLinkedBody : UserResult s (UserState s) (loadLinkedBody p u) := by
  refine .after_read h.effect (memRead_stopsInPlace ..) fun m => ?_
  have hlinked : ∀ l, UserState s
      { u.setReg .a (loadInto (opBits p) u.w (p.extension .zero) u.a m) with link := l } := fun l => h.set rfl
  exact (hlinked _).unlessNf ((hlinked _).setNZ ..)

@[simp] theorem UserState.storeConditionalBody : UserResult s (UserState s) (storeConditionalBody p u) := by
  unfold Machine.storeConditionalBody
  split
  · exact (h.memWrite (h.denv p) ..).after_step fun _ ht => (ht.setV _).unlink
  · exact (h.setV _).unlink

@[simp] theorem UserState.loadBody (r : Reg) : UserResult s (UserState s) (loadBody r f p op u) :=
  .after_read h.effect (sourceOperand_stopsInPlace ..) fun _ => (h.setReg ..).unlessNf ((h.setReg ..).setNZ ..)

@[simp] theorem UserState.transferBody (r : Reg) : UserResult s (UserState s) (transferBody r p v u) :=
  (h.setReg ..).unlessNf ((h.setReg ..).setNZ ..)

@[simp] theorem UserState.toStackBody : UserResult s (UserState s) (toStackBody p v u) := h.setSp (h.denv p) _

@[simp] theorem UserState.wholeTransfer (r : Reg) : UserResult s (UserState s) (wholeTransfer r p v u) :=
  (h.setReg ..).unlessNf ((h.setReg ..).setNZ ..)

@[simp] theorem UserState.swapBody (q r : Reg) : UserResult s (UserState s) (swapBody q r u) := (h.setReg ..).setReg ..

@[simp] theorem UserState.quickRegBody (k : Step1) (r : Reg) (cnt : BitVec 3) :
    UserResult s (UserState s) (quickRegBody k r p cnt u) := (h.setReg ..).unlessNf ((h.setReg ..).setFlags ..)

@[simp] theorem UserState.stepBody (k : Step1) (r : Reg) : UserResult s (UserState s) (stepBody k r p u) :=
  (h.setReg ..).unlessNf ((h.setReg ..).setFlags ..)

@[simp] theorem UserState.quickMemBody (k : Step1) (cnt : BitVec 3) :
    UserResult s (UserState s) (quickMemBody k f p op cnt u) :=
  .after_read h.effect (effectiveAddress_stopsInPlace ..) fun _ => .after_read h.effect (memRead_stopsInPlace ..) fun _ =>
    (h.memWrite (h.denv p) ..).after_step fun _ ht => ht.unlessNf (ht.setFlags ..)

@[simp] theorem UserState.modifyBody (k : Step1) : UserResult s (UserState s) (modifyBody k f p op u) :=
  .after_read h.effect (effectiveAddress_stopsInPlace ..) fun _ => .after_read h.effect (memRead_stopsInPlace ..) fun _ =>
    (h.memWrite (h.denv p) ..).after_step fun _ ht => ht.unlessNf (ht.setFlags ..)

@[simp] theorem UserState.testBody (setBits : Bool) : UserResult s (UserState s) (testBody setBits f p op u) :=
  .after_read h.effect (effectiveAddress_stopsInPlace ..) fun _ => .after_read h.effect (memRead_stopsInPlace ..) fun _ =>
    (h.memWrite (h.denv p) ..).after_step fun _ ht => ht.unlessNf (ht.setZ _)

@[simp] theorem UserState.pushBody : UserResult s (UserState s) (pushBody p v u) := h.push (h.denv p) ..

@[simp] theorem UserState.pushWhole : UserResult s (UserState s) (pushWhole p v u) := h.push (h.denv p) ..

@[simp] theorem UserState.pullBody (r : Reg) : UserResult s (UserState s) (pullBody r p u) := by
  unfold Machine.pullBody
  split
  · rename_i e herror
    exact .of_stop h.effect (pull_stopsInPlace ..) herror
  · rename_i m t hpull
    exact ((h.pull (h.denv p) hpull).setReg ..).unlessNf (((h.pull (h.denv p) hpull).setReg ..).setNZ ..)

@[simp] theorem UserState.pullWhole (r : Reg) : UserResult s (UserState s) (pullWhole r p u) := by
  unfold Machine.pullWhole
  split
  · rename_i e herror
    exact .of_stop h.effect (pull_stopsInPlace ..) herror
  · rename_i m t hpull
    exact ((h.pull (h.denv p) hpull).setReg ..).unlessNf (((h.pull (h.denv p) hpull).setReg ..).setNZ ..)

@[simp] theorem UserState.pushStatus : UserResult s (UserState s) (pushStatus u) := h.push h.cur ..

@[simp] theorem UserState.pullStatus : UserResult s (UserState s) (pullStatus u) := by
  unfold Machine.pullStatus
  split
  · rename_i e herror
    exact .of_stop h.effect (pull_stopsInPlace ..) herror
  · rename_i m t hpull
    exact (h.pull h.cur hpull).set rfl

@[simp] theorem UserState.pushReplaceBase : UserResult s (UserState s) (pushReplaceBase p u) :=
  (h.push (h.denv p) ..).after_step fun _ ht => (ht.setReg ..).unlessNf ((ht.setReg ..).setNZ ..)

@[simp] theorem UserState.storeBody : UserResult s (UserState s) (storeBody f p op v u) :=
  .after_read h.effect (effectiveAddress_stopsInPlace ..) fun _ => h.memWrite (h.denv p) ..

end Bodies

/-! ### Every instruction -/

/-- `answer` is what performing some body answers; outside the SYS page the body stays within the reach of user mode. -/
structure PerformsAsUser (s : State) (answer : Answer) : Prop where
  eq : ∃ undo page f p body, (undo = s ∨ undo = s.setH false) ∧ answer = performFrom undo page f p s body ∧
    (page ≠ .sys → ∀ r u, UserState r u → UserResult r (UserOutcome r) (body u))

/-- What an instruction performs, by page: those of the SYS page need not be looked at (R703), TRP and BRK enter hypervisor
mode, and every other one stays in user mode. -/
theorem exec_performsAsUser (i : Instr) (s : State) : PerformsAsUser s (exec i s) := by
  cases i
  case lcr | senv | senvE | scr | bcr | jpuAbs | cleim | rtu | filu | mvnfu | mvpfu | wai | mvntu | stp | mvptu =>
    exact ⟨_, _, _, _, _, .inl rfl, rfl, fun hsys => absurd rfl hsys⟩
  case jpuIndAbs => exact ⟨_, _, _, _, _, .inr rfl, rfl, fun hsys => absurd rfl hsys⟩
  case smmu => exact ⟨_, _, _, _, fun t => refuse t .mmuBaseUndefined, .inl rfl, rfl, fun hsys => absurd rfl hsys⟩
  case brk => exact ⟨_, _, _, _, _, .inl rfl, rfl, fun _ r u h => h.takeBreak⟩
  case trp p op => exact ⟨_, _, _, _, _, .inl rfl, rfl, fun _ r u h => h.takeTrap op⟩
  case mvn p =>
    exact ⟨_, _, _, _, fun t => blockStep s.pc 1 (moveByte t.cur t.cur (-1)) t, .inl rfl, rfl,
      fun _ r u h => (h.blockStep _ _ (h.moveByte _)).outcome⟩
  case mvp p =>
    exact ⟨_, _, _, _, fun t => blockStep s.pc 1 (moveByte t.cur t.cur 1) t, .inl rfl, rfl,
      fun _ r u h => (h.blockStep _ _ (h.moveByte _)).outcome⟩
  case clc | sec | cli | sei | clv | cld | nop | sed =>
    exact ⟨_, _, _, _, _, .inl rfl, rfl, fun _ r u h => (h.statusBody rfl).outcome⟩
  all_goals exact ⟨_, _, _, _, _, .inl rfl, rfl, fun _ r u h => UserResult.outcome (by simp [h])⟩

/-- An instruction of user mode takes PRIVOP, or completes or aborts within the reach of its body (R664, R703). -/
theorem PerformsAsUser.outcome {s t : State} (hp : PerformsAsUser s (.next t)) (h : UserState s s) : UserOutcome s t := by
  obtain ⟨undo, page, f, p, body, hundo, heq, hbody⟩ := hp.eq
  have hopt := h.mode
  simp only [State.isHyp, Bool.or_eq_false_iff] at hopt
  have hstate : UserState s undo := by
    rcases hundo with rfl | rfl
    · exact h
    · exact h.set (by simp [hopt])
  have habort : ∀ {m pcNext k}, UserMemory s m → enterAbort { undo with mem := m } pcNext k = .ok t → UserOutcome s t :=
    fun hm hentry => ((hstate.set_memory hm).enterAbort ..).of_ok hentry
  by_cases hpriv : page = .sys ∨ p.um = true
  · rw [performFrom, if_pos ⟨hpriv, h.mode⟩] at heq
    exact habort h.effect.memory (answer_next heq.symm)
  · have hresult := hbody (fun hsys => hpriv (.inl hsys)) s _ (h.setPc (s.pc + BitVec.ofNat 64 (instrBytes page f p)))
    rcases performFrom_next heq.symm with hok | ⟨k, m, rfl | ⟨e, herror, rfl⟩, hentry⟩
    · exact hresult.of_ok hok
    · exact habort h.effect.memory hentry
    · rw [herror] at hresult
      exact habort hresult hentry

/-- Settles O50: by the reach of every operation that an instruction of user mode performs, its abort entry included. -/
theorem userModeCannotReachTheHypervisor : Obligations.UserModeCannotReachTheHypervisor := by
  intro i s t hwf hmode hexec
  have hs : UserState s s := .refl (GoodState.of_wellFormed hwf).memory.canonical hmode
  obtain ⟨⟨heq, hmem⟩, hentry⟩ := (hexec ▸ exec_performsAsUser i s : PerformsAsUser s (.next t)).outcome hs
  refine ⟨?_, ?_, ?_, ?_, ?_, ?_, ?_, ?_, ?_, ?_, ?_, ?_, ?_, ?_, ?_, ?_, ?_, ?_, hmem.reached, hentry⟩
  all_goals rw [heq]

end Sys2Proof.Machine
end

section
/-! How an instruction takes the abort of an access (R107, R664, R666): its body stops where the access does, with what the
access had written. -/

namespace Sys2Proof.Machine

open Sys2Proof.Claims

/-! ### Stopping where an access stops -/

/-- `q` stops where `r` does, and in the same way. -/
structure StopsWith {α β : Type} (r : Res α) (q : Res β) : Prop where
  eq : ∀ h, r = .error h → q = .error h

/-- What goes on after a read stops where the read does. -/
theorem stopsWith_read (r : Res Word) {f : Word → Res State} :
    StopsWith r (match r with | .error e => .error e | .ok v => f v) := ⟨fun e he => by rw [he]⟩

/-- What goes on after a read that completes stops where the rest does. -/
theorem StopsWith.after_read {α : Type} {r : Res α} {q : Res Word} {v : Word} {f : Word → Res State} (hq : q = .ok v)
    (h : StopsWith r (f v)) : StopsWith r (match q with | .error e => .error e | .ok v => f v) := by
  rw [hq]
  exact h

/-- What goes on after a write stops where the write does. -/
theorem StopsWith.in_write {α : Type} {r : Res α} {q : Res State} (h : StopsWith r q) {f : State → Res State} :
    StopsWith r (match q with | .error e => .error e | .ok t => f t) := ⟨fun e he => by rw [h.eq e he]⟩

/-! ### Writes and pushes -/

theorem writeCells_past (i : Instr) (s : State) (env : Env) : ∀ (cells : List (Word × Byte)) (m : Memory),
    writeCells (past i s) env m cells = writeCells s env m cells
  | [], _ => rfl
  | c :: cells, m => by
    have hlocate : locate (past i s) env (low (past i s).w c.1) .write = locate s env (low s.w c.1) .write :=
      locate_congr rfl rfl rfl rfl ..
    simp only [writeCells, hlocate, writeCells_past i s env cells]

/-- A write after the fetch stops where the writing of its cells does (R107). -/
theorem memWrite_stops (i : Instr) (s : State) (env : Env) (ea : Word) (k : Nat) (v : Word) :
    StopsWith (writeCells s env s.mem (upward ea (littleEndian k v.toNat))) (memWrite (past i s) env ea k v) :=
  ⟨fun _ he => memWrite_of_writeCells ((writeCells_past i s env _ _).trans he)⟩

theorem downward_cons (sp : Word) (b : Byte) (bs : List Byte) : downward sp (b :: bs) = (sp, b) :: downward (sp - 1) bs := by
  simp only [downward, List.mapIdx_cons, word_succ, sub_add_eq_sub_sub]
  simp [word]

theorem low_sub_one_congr {n : Nat} (hn : n ≤ 64) {u v : Word} (h : low n u = low n v) : low n (u - 1) = low n (v - 1) := by
  rw [BitVec.sub_eq_add_neg, BitVec.sub_eq_add_neg, ← low_low_add n u _ hn, h, low_low_add n v _ hn]

/-- A push of bytes stops where the writing of its cells does, from the stack pointer downwards (R270). -/
theorem pushBytes_of_writeCells {s : State} {env : Env} {h : Halt} : ∀ (bs : List Byte) {t : State} {sp : Word},
    StackMoved env s t → low s.w (t.sp env) = low s.w sp → writeCells s env t.mem (downward sp bs) = .error h →
    pushBytes t env bs = .error h
  | [], _, _, _, _, hcells => nomatch hcells
  | b :: bs, t, sp, ht, hsp, hcells => by
    have hstep : ∀ u : State, StackMoved env s u → u.sp env = t.sp env → writeCells s env u.mem (downward (sp - 1) bs) = .error h →
        pushBytes (u.setSp env (u.sp env - 1)) env bs = .error h := fun u hu husp hrest => by
      refine pushBytes_of_writeCells bs (hu.trans (.set env u u.mem _)) ?_ (by rw [State.setSp_mem]; exact hrest)
      rw [State.sp_setSp_same, hu.w_eq, low_low, husp, low_sub_one_congr s.w_le hsp]
    rw [downward_cons, writeCells, ← hsp] at hcells
    rw [pushBytes, writeByte, ht.locate_eq, ht.w_eq]
    cases hl : locate s env (low s.w (t.sp env)) .write with
    | error x =>
      rw [hl] at hcells
      cases hcells
      rfl
    | ok o =>
      rw [hl] at hcells
      cases o with
      | none => exact hstep t ht rfl hcells
      | some q => exact hstep _ (ht.set_mem (t.mem.store q b)) (by cases env <;> rfl) hcells

/-- A push after the fetch stops where the writing of its cells does (R270). -/
theorem push_stops (i : Instr) (s : State) (env : Env) (k : Nat) (v : Word) :
    StopsWith (writeCells s env s.mem (downward (s.sp env) (bigEndian k v.toNat))) (push (past i s) env k v) := by
  refine ⟨fun h he => ?_⟩
  rw [push, toBytes_eq]
  refine pushBytes_of_writeCells _ (.refl env _) ?_ ((writeCells_past i s env _ _).trans he)
  rw [past, State.setPc_sp]

/-! ### Pulls -/

/-- A pull stops where the read above the stack pointer does (R270). -/
theorem pullBytes_of_readBytes_error (env : Env) {x : Stop} : ∀ (k : Nat) {s : State},
    readBytes s env (low s.w (s.sp env + 1)) k = .error x → pullBytes s env k = halt s x
  | 0, _, h => nomatch h
  | k + 1, s, h => by
    have hbyte : readByte (s.setSp env (s.sp env + 1)) env ((s.setSp env (s.sp env + 1)).sp env) .read =
        readByte s env (low s.w (s.sp env + 1)) .read := by
      rw [State.sp_setSp_same]
      exact readByte_congr (by simp) (by simp) (by simp) (by simp) (by simp) ..
    rw [readBytes] at h
    rw [pullBytes]
    simp only [hbyte]
    cases hb : readByte s env (low s.w (s.sp env + 1)) .read with
    | error y =>
      rw [hb] at h
      cases h
      rfl
    | ok b =>
      rw [hb] at h
      dsimp only at h
      cases hrest : readBytes s env (low s.w (low s.w (s.sp env + 1) + 1)) k with
      | ok bs => rw [hrest] at h; cases h
      | error y =>
        rw [hrest] at h
        cases h
        have hmoved : readBytes (s.setSp env (s.sp env + 1)) env
            (low (s.setSp env (s.sp env + 1)).w ((s.setSp env (s.sp env + 1)).sp env + 1)) k = .error x := by
          rw [← hrest, State.sp_setSp_same, State.setSp_w]
          exact readBytes_congr (by simp) (by simp) (by simp) (by simp) (by simp) ..
        rw [pullBytes_of_readBytes_error env k hmoved]
        simp only [halt, State.setSp_mem]

theorem pull_stops (s : State) (env : Env) (k : Nat) : StopsWith (memRead s env (s.sp env + 1) k) (pull s env k) := by
  refine ⟨fun h he => ?_⟩
  unfold memRead at he
  split at he
  · rename_i x hx
    cases he
    rw [pull, pullBytes_of_readBytes_error env k hx]
    rfl
  · cases he

/-! ### Taking the abort -/

section Abort

variable {i : Instr} {s : State} {body : State → Res State} (hi : HasBody i s body) (hp : permitted i s = true)
include hi hp

/-- An abort in the body of an instruction is taken from the state before it, with the memory as the abort found it (R664). -/
theorem exec_eq_abortOf {k : AbortKind} {m : Memory} (hbody : body (past i s) = .error { stop := .abort k, mem := m }) :
    exec i s = abortOf i { s with mem := m } k := by
  have hnext : ∀ (t : State) (v : Word), enterAbort t (low t.w v) k = enterAbort t v k := fun t v => by simp [enterAbort]
  rw [exec_eq_finish hi hp, hbody]
  exact congrArg answer (hnext { s with mem := m } _).symm

theorem takesReadAbort_of_stops {α : Type} {r : Res α} (hin : StopsInPlace s r) (hstop : StopsWith r (body (past i s))) :
    takesReadAbort i s r := fun k m hr => by
  obtain rfl : m = s.mem := hin.mem_eq _ hr
  exact exec_eq_abortOf hi hp (hstop.eq _ hr)

theorem takesWriteAbort_of_stops (hm : s.mem.wf = true) {env : Env} {cells : List (Word × Byte)}
    (hstop : StopsWith (writeCells s env s.mem cells) (body (past i s))) : takesWriteAbort i s env cells :=
  fun j c _ hj hw hx => ⟨_, (stores_iff hm).2 rfl,
    exec_eq_abortOf hi hp (hstop.eq _ (writeCells_of_writable s env cells s.mem j c hj hw hx))⟩

end Abort

/-! ### Single steps as arithmetic (R440) -/

/-- A bit below an even number is added to it. -/
theorem two_mul_or_bit (x b : Nat) (hb : b < 2) : 2 * x ||| b = 2 * x + b := (Nat.two_pow_add_eq_or_of_lt (i := 1) hb x).symm

/-- A shift to the left of an `n`-bit value with a bit shifted in. -/
theorem low_shiftLeft_or_bit {n : Nat} (hn : 0 < n) (h64 : n ≤ 64) (v : Word) (c : Bool) :
    (low n (v <<< 1 ||| (if c then 1 else 0))).toNat = 2 * v.toNat % 2 ^ n + c.toNat := by
  obtain ⟨m, rfl⟩ := Nat.exists_eq_succ_of_ne_zero (Nat.pos_iff_ne_zero.1 hn)
  have hbit : (if c then 1 else 0 : Word).toNat = c.toNat := by cases c <;> rfl
  have hlt : c.toNat < 2 := c.toNat_lt
  have hdvd : 2 ^ m ∣ 2 ^ 63 := Nat.pow_dvd_pow 2 (by omega)
  have hshift : (v <<< 1).toNat = 2 * (v.toNat % 2 ^ 63) := by
    rw [BitVec.toNat_shiftLeft, Nat.shiftLeft_eq]
    omega
  rw [low_toNat, BitVec.toNat_or, hbit, hshift, two_mul_or_bit _ _ hlt, Nat.pow_succ' (n := m), Nat.mod_mul,
    Nat.mul_mod_mul_left, Nat.mul_add_mod, Nat.mod_eq_of_lt hlt, Nat.mul_add_div Nat.two_pos, Nat.div_eq_of_lt hlt,
    Nat.add_zero, Nat.mod_mod_of_dvd _ hdvd, Nat.add_comm]

/-- A shift to the right of an `n`-bit value with a bit shifted in at the top. -/
theorem shiftRight_or_top {n : Nat} (hn : 0 < n) (h64 : n ≤ 64) {v : Word} (hv : v.toNat < 2 ^ n) (c : Bool) :
    (low n v >>> 1 ||| ((if c then 1 <<< (n - 1) else 0 : Nat) : Word)).toNat = v.toNat / 2 + c.toNat * 2 ^ (n - 1) := by
  have hdouble : 2 ^ n = 2 * 2 ^ (n - 1) := by rw [← Nat.pow_succ']; congr; omega
  have hhalf : v.toNat / 2 < 2 ^ (n - 1) := by omega
  have hpow : 2 ^ (n - 1) < 2 ^ 64 := Nat.pow_lt_pow_right (by decide) (by omega)
  have htop : (((if c then 1 <<< (n - 1) else 0 : Nat) : Word)).toNat = 2 ^ (n - 1) * c.toNat := by
    cases c with
    | false => rfl
    | true => simpa [Nat.shiftLeft_eq] using Nat.mod_eq_of_lt hpow
  rw [low_eq_self hv, BitVec.toNat_or, BitVec.toNat_ushiftRight, Nat.shiftRight_eq_div_pow, Nat.pow_one, htop, Nat.or_comm,
    ← Nat.two_pow_add_eq_or_of_lt hhalf, Nat.add_comm, Nat.mul_comm]

theorem getLsbD_zero_eq (v : Word) : v.getLsbD 0 = (v.toNat % 2 == 1) := by
  simp [BitVec.getLsbD, Nat.testBit_zero, beq_eq_decide]

/-- The top bit of an `n`-bit value as a number. -/
theorem topBit_toNat {n : Nat} (hn : 0 < n) {v : Word} (hv : v.toNat < 2 ^ n) : (topBit n v).toNat = v.toNat / 2 ^ (n - 1) := by
  have hdouble : 2 ^ n = 2 ^ (n - 1) * 2 := by rw [← Nat.pow_succ]; congr; omega
  have hlt : v.toNat / 2 ^ (n - 1) < 2 := Nat.div_lt_of_lt_mul (hdouble ▸ hv)
  have hle : 2 ^ (n - 1) ≤ v.toNat ↔ 1 ≤ v.toNat / 2 ^ (n - 1) := by
    rw [Nat.le_div_iff_mul_le (Nat.two_pow_pos _), Nat.one_mul]
  rw [topBit_eq hn hv]
  by_cases h : 2 ^ (n - 1) ≤ v.toNat
  · have := hle.1 h
    simp only [h, decide_true, Bool.toNat_true]
    omega
  · simp only [h, decide_false, Bool.toNat_false]
    exact (Nat.div_eq_of_lt (Nat.lt_of_not_le h)).symm

/-- One step on an `n`-bit value is the arithmetic of the statements (R440). -/
theorem apply_eq_stepped {n : Nat} (hn : 0 < n) (h64 : n ≤ 64) {v : Word} (hv : v.toNat < 2 ^ n) (k : Step1) (c : Bool) :
    (k.apply n v c).1.toNat = (stepped k n v.toNat c).1 ∧ (k.apply n v c).2 = (stepped k n v.toNat c).2 := by
  have htop : topBit n v = decide (2 ^ (n - 1) ≤ v.toNat) := topBit_eq hn hv
  have hdvd : 2 ^ n ∣ 2 ^ 64 := Nat.pow_dvd_pow 2 h64
  have hleft : (low n (v <<< 1)).toNat = 2 * v.toNat % 2 ^ n := by simpa using low_shiftLeft_or_bit hn h64 v false
  have hright : (low n v >>> 1).toNat = v.toNat / 2 := by simpa using shiftRight_or_top hn h64 hv false
  cases k with
  | inc => exact ⟨by rw [Step1.apply, low_toNat, BitVec.toNat_add, Nat.mod_mod_of_dvd _ hdvd]; rfl, rfl⟩
  | dec =>
    refine ⟨?_, rfl⟩
    obtain ⟨q, hq⟩ := hdvd
    have hpos := Nat.two_pow_pos n
    have hq1 : 1 ≤ q := Nat.one_le_iff_ne_zero.2 fun h0 => by simp [h0] at hq
    have hle : 2 ^ n * 1 ≤ 2 ^ n * q := Nat.mul_le_mul_left _ hq1
    have hsplit : 2 ^ 64 - 1 + v.toNat = v.toNat + (2 ^ n - 1) + 2 ^ n * (q - 1) := by
      rw [hq, Nat.mul_sub]
      omega
    rw [Step1.apply, low_toNat, BitVec.toNat_sub, Nat.mod_mod_of_dvd _ ⟨q, hq⟩]
    change (2 ^ 64 - 1 + v.toNat) % 2 ^ n = _
    rw [hsplit, Nat.add_mul_mod_self_left]
    rfl
  | asl => exact ⟨hleft, htop⟩
  | lsr => exact ⟨hright, getLsbD_zero_eq v⟩
  | asr =>
    refine ⟨(shiftRight_or_top hn h64 hv _).trans ?_, getLsbD_zero_eq v⟩
    rw [htop, stepped]
    by_cases h : 2 ^ (n - 1) ≤ v.toNat <;> simp [h]
  | rol => exact ⟨low_shiftLeft_or_bit hn h64 v c, htop⟩
  | ror => exact ⟨shiftRight_or_top hn h64 hv c, getLsbD_zero_eq v⟩
  | rdl => exact ⟨(low_shiftLeft_or_bit hn h64 v _).trans (by rw [topBit_toNat hn hv]; rfl), htop⟩
  | rdr =>
    refine ⟨(shiftRight_or_top hn h64 hv _).trans ?_, getLsbD_zero_eq v⟩
    rw [getLsbD_zero_eq, stepped]
    rcases Nat.mod_two_eq_zero_or_one v.toNat with h | h <;> simp [h]

/-- A single step gives an `n`-bit value (R440). -/
theorem apply_lt {n : Nat} (hn : 0 < n) (h64 : n ≤ 64) {v : Word} (hv : v.toNat < 2 ^ n) (k : Step1) (c : Bool) :
    (k.apply n v c).1.toNat < 2 ^ n := by
  have hright : ∀ b : Bool, (low n v >>> 1 ||| ((if b then 1 <<< (n - 1) else 0 : Nat) : Word)).toNat < 2 ^ n := fun b => by
    have hdouble : 2 ^ n = 2 * 2 ^ (n - 1) := by rw [← Nat.pow_succ']; congr; omega
    rw [shiftRight_or_top hn h64 hv]
    cases b <;> simp only [Bool.toNat_false, Bool.toNat_true] <;> omega
  cases k with
  | inc | dec | asl | rol | rdl => exact low_lt n _
  | asr | ror | rdr => exact hright _
  | lsr => simpa [Step1.apply] using hright false

/-- Steps repeated are the arithmetic of the statements repeated (R440, R474). -/
theorem repeated_eq_steppedTimes {n : Nat} (hn : 0 < n) (h64 : n ≤ 64) (k : Step1) : ∀ (t : Nat) {v : Word} (c : Bool),
    v.toNat < 2 ^ n → (k.repeated n t v c).1.toNat = (steppedTimes k n t (v.toNat, c)).1
  | 0, _, _, _ => rfl
  | t + 1, v, c, hv => by
    obtain ⟨hvalue, hcarry⟩ := apply_eq_stepped hn h64 hv k c
    rw [Step1.repeated, repeated_eq_steppedTimes hn h64 k t _ (apply_lt hn h64 hv k c), hvalue, hcarry]
    rfl

end Sys2Proof.Machine
end

section
/-! Which body each form of the statements' lists performs. -/

namespace Sys2Proof.Machine

open Sys2Proof.Claims

/-- `i` has the prefixes `p`, and what it performs is `g` of its format and operand. -/
structure Means (i : Instr) (p : Pfx) (g : Format → Word → State → Res State) : Prop where
  pfx : i.view.pfx = p
  body : ∀ s, HasBody i s (g i.view.row.format i.view.op)

/-- A body that stops where a read does makes the instruction take the abort of the read. -/
theorem Means.takesReadAbort {α : Type} {i : Instr} {p : Pfx} {g : Format → Word → State → Res State} (h : Means i p g) {s : State}
    (hp : permitted i s = true) {r : Res α} (hin : StopsInPlace s r)
    (hstop : StopsWith r (g i.view.row.format i.view.op (past i s))) : takesReadAbort i s r :=
  takesReadAbort_of_stops (h.body s) hp hin hstop

/-- A body that stops where a write does makes the instruction take the abort of the write. -/
theorem Means.takesWriteAbort {i : Instr} {p : Pfx} {g : Format → Word → State → Res State} (h : Means i p g) {s : State}
    (hp : permitted i s = true) (hm : s.mem.wf = true) {env : Env} {cells : List (Word × Byte)}
    (hstop : StopsWith (writeCells s env s.mem cells) (g i.view.row.format i.view.op (past i s))) :
    takesWriteAbort i s env cells :=
  takesWriteAbort_of_stops (h.body s) hp hm hstop

/-- Of an instruction that is ready, the width check is passed (R250). -/
theorem Means.of_ready {i : Instr} {p : Pfx} {g : Format → Word → State → Res State} (h : Means i p fun f op => withWidth p (g f op))
    {s : State} (hr : ready i s = true) {α : Type} {r : Res α} (hstop : StopsWith r (g i.view.row.format i.view.op (past i s))) :
    StopsWith r (withWidth p (g i.view.row.format i.view.op) (past i s)) := by
  have hw := withWidth_of_ready hr (g i.view.row.format i.view.op)
  rw [h.pfx] at hw
  rwa [hw]

theorem loads_means (p : Pfx) (op : Word) : ∀ e ∈ loads,
    Means (e.2 p op) p fun f op => withWidth p (loadBody e.1 f p op) := by
  simp only [loads, List.forall_mem_cons, List.not_mem_nil, false_implies, implies_true, and_true]
  and_intros
  all_goals exact ⟨rfl, fun _ => rfl⟩

theorem logicForms_means (p : Pfx) (op : Word) : ∀ e ∈ logicForms,
    ∃ g, Means (e.2 p op) p fun f op => withWidth p (logicBody g f p op) := by
  simp only [logicForms, List.forall_mem_cons, List.not_mem_nil, false_implies, implies_true, and_true]
  and_intros
  all_goals exact ⟨_, rfl, fun _ => rfl⟩

theorem compareForms_means (p : Pfx) (op : Word) : ∀ e ∈ compareForms,
    Means (e.2 p op) p fun f op => withWidth p (compareBody e.1 f p op) := by
  simp only [compareForms, List.forall_mem_cons, List.not_mem_nil, false_implies, implies_true, and_true]
  and_intros
  all_goals exact ⟨rfl, fun _ => rfl⟩

theorem bitForms_means (p : Pfx) (op : Word) : ∀ e ∈ bitForms,
    Means (e p op) p fun f op => withWidth p (bitBody f p op) := by
  simp only [bitForms, List.forall_mem_cons, List.not_mem_nil, false_implies, implies_true, and_true]
  and_intros
  all_goals exact ⟨rfl, fun _ => rfl⟩

theorem addForms_means (p : Pfx) (op : Word) : ∀ e ∈ addForms,
    Means (e p op) p fun f op => withWidth p (addBody false f p op) := by
  simp only [addForms, List.forall_mem_cons, List.not_mem_nil, false_implies, implies_true, and_true]
  and_intros
  all_goals exact ⟨rfl, fun _ => rfl⟩

theorem subtractForms_means (p : Pfx) (op : Word) : ∀ e ∈ subtractForms,
    Means (e p op) p fun f op => withWidth p (addBody true f p op) := by
  simp only [subtractForms, List.forall_mem_cons, List.not_mem_nil, false_implies, implies_true, and_true]
  and_intros
  all_goals exact ⟨rfl, fun _ => rfl⟩

/-- The register that a store stores, none for STZ (R304 to R307). -/
def storedValue (r : Option Reg) (s : State) : Word := match r with
  | none => 0
  | some q => s.reg q

theorem stores_means (p : Pfx) (op : Word) : ∀ e ∈ stores,
    Means (e.2 p op) p fun f op => withWidth p fun t => storeBody f p op (storedValue e.1 t) t := by
  simp only [stores, List.forall_mem_cons, List.not_mem_nil, false_implies, implies_true, and_true]
  and_intros
  all_goals exact ⟨rfl, fun _ => rfl⟩

theorem calls_means (p : Pfx) (op : Word) : ∀ e ∈ calls,
    Means (e p op) p fun f op => callBody f p op := by
  simp only [calls, List.forall_mem_cons, List.not_mem_nil, false_implies, implies_true, and_true]
  and_intros
  all_goals exact ⟨rfl, fun _ => rfl⟩

theorem relativeCalls_means (p : Pfx) (op : Word) : ∀ e ∈ relativeCalls,
    Means (e p op) p fun f op => branchCallBody f p op := by
  simp only [relativeCalls, List.forall_mem_cons, List.not_mem_nil, false_implies, implies_true, and_true]
  and_intros
  all_goals exact ⟨rfl, fun _ => rfl⟩

theorem jumps_means (p : Pfx) (op : Word) : ∀ e ∈ jumps,
    Means (e p op) p fun f op => jumpBody f p op := by
  simp only [jumps, List.forall_mem_cons, List.not_mem_nil, false_implies, implies_true, and_true]
  and_intros
  all_goals exact ⟨rfl, fun _ => rfl⟩

theorem leaForms_means (p : Pfx) (op : Word) : ∀ e ∈ leaForms,
    Means (e p op) p fun f op => leaBody f p op := by
  simp only [leaForms, List.forall_mem_cons, List.not_mem_nil, false_implies, implies_true, and_true]
  and_intros
  all_goals exact ⟨rfl, fun _ => rfl⟩

theorem peaForms_means (p : Pfx) (op : Word) : ∀ e ∈ peaForms,
    Means (e p op) p fun f op => peaBody f p op := by
  simp only [peaForms, List.forall_mem_cons, List.not_mem_nil, false_implies, implies_true, and_true]
  and_intros
  all_goals exact ⟨rfl, fun _ => rfl⟩

/-- A QUICK form repeats its step on a byte; the others do it once at the operation width (R440, R474). -/
theorem memoryStepForms_means (p : Pfx) (op : Word) (cnt : BitVec 3) : ∀ e ∈ memorySteps ++ quickMemorySteps,
    Means (e.2.2 p op cnt) p fun f op =>
      if e.2.1 then quickMemBody e.1 f p op cnt else withWidth p (modifyBody e.1 f p op) := by
  simp only [memorySteps, quickMemorySteps, List.forall_mem_append, List.forall_mem_cons, List.not_mem_nil, false_implies,
    implies_true, and_true]
  and_intros
  all_goals exact ⟨rfl, fun _ => rfl⟩

theorem testForms_means (p : Pfx) (op : Word) : ∀ e ∈ testForms,
    Means (e.2 p op) p fun f op => withWidth p (testBody e.1 f p op) := by
  simp only [testForms, List.forall_mem_cons, List.not_mem_nil, false_implies, implies_true, and_true]
  and_intros
  all_goals exact ⟨rfl, fun _ => rfl⟩

theorem pushes_means (p : Pfx) (op : Word) : ∀ e ∈ pushes,
    Means (e.2.2 p op) p fun _ _ =>
      if e.1 then fun t => pushWhole p (t.reg e.2.1) t else withWidth p fun t => pushBody p (t.reg e.2.1) t := by
  simp only [pushes, List.forall_mem_cons, List.not_mem_nil, false_implies, implies_true, and_true]
  and_intros
  all_goals exact ⟨rfl, fun _ => rfl⟩

theorem pulls_means (p : Pfx) (op : Word) : ∀ e ∈ pulls,
    Means (e.2.2 p op) p fun _ _ => if e.1 then pullWhole e.2.1 p else withWidth p (pullBody e.2.1 p) := by
  simp only [pulls, List.forall_mem_cons, List.not_mem_nil, false_implies, implies_true, and_true]
  and_intros
  all_goals exact ⟨rfl, fun _ => rfl⟩

theorem moveForms_means (p : Pfx) (op : Word) : ∀ e ∈ moveForms,
    ∀ s, HasBody (e.2.2.2 p op) s
      fun t => blockStep s.pc 1 (moveByte (e.1 t) (e.2.1 t) (if e.2.2.1 then 1 else -1)) t := by
  simp only [moveForms, List.forall_mem_cons, List.not_mem_nil, false_implies, implies_true, and_true]
  and_intros
  all_goals exact fun _ => rfl

end Sys2Proof.Machine
end

section
/-! The accesses of each group of instructions, and the aborts they take (R107, R664). -/

namespace Sys2Proof.Machine

open Sys2Proof.Claims

/-! ### Operands and addresses -/

section Addresses

variable {i : Instr} {p : Pfx} {g : Format → Word → State → Res State} {s : State}

theorem address_stopsInPlace (i : Instr) (s : State) : StopsInPlace s (address i s) :=
  ⟨(effectiveAddress_stopsInPlace _ _ _ (past i s)).mem_eq⟩

theorem operand_stopsInPlace (i : Instr) (s : State) : StopsInPlace s (operand i s) :=
  ⟨(sourceOperand_stopsInPlace _ _ _ (past i s)).mem_eq⟩

theorem Means.address_eq (h : Means i p g) (s : State) :
    address i s = effectiveAddress i.view.row.format p i.view.op (past i s) := by rw [address, h.pfx]

theorem Means.operand_eq (h : Means i p g) (s : State) :
    operand i s = sourceOperand i.view.row.format p i.view.op (past i s) := by rw [operand, h.pfx]

/-- A computing instruction reads its operand first. -/
theorem takesOperandAbort_of_means (h : Means i p fun f op => withWidth p (g f op)) (hr : ready i s = true)
    (hstop : StopsWith (sourceOperand i.view.row.format p i.view.op (past i s)) (g i.view.row.format i.view.op (past i s))) :
    takesReadAbort i s (operand i s) :=
  h.takesReadAbort (permitted_of_ready hr) (operand_stopsInPlace i s) (h.of_ready hr (h.operand_eq s ▸ hstop))

/-- An instruction with an effective address finds it first. -/
theorem takesAddressAbort_of_means (h : Means i p g) (hp : permitted i s = true)
    (hstop : StopsWith (effectiveAddress i.view.row.format p i.view.op (past i s)) (g i.view.row.format i.view.op (past i s))) :
    takesReadAbort i s (address i s) :=
  h.takesReadAbort hp (address_stopsInPlace i s) (h.address_eq s ▸ hstop)

/-- After the fetch memory reads as before. -/
theorem StopsWith.of_read_past {β : Type} {env : Env} {ea : Word} {k : Nat} {q : Res β}
    (h : StopsWith (memRead (past i s) env ea k) q) : StopsWith (memRead s env ea k) q := memRead_past i s env ea k ▸ h

end Addresses

section Clauses

variable {p : Pfx} {op : Word} {s : State}

theorem operandForms_takeReadAbort {mk : Form}
    (hmk : mk ∈ loads.map (·.2) ++ logicForms.map (·.2) ++ compareForms.map (·.2) ++ bitForms)
    (hr : ready (mk p op) s = true) : takesReadAbort (mk p op) s (operand (mk p op) s) := by
  simp only [List.mem_append, List.mem_map] at hmk
  rcases hmk with ((⟨e, he, rfl⟩ | ⟨e, he, rfl⟩) | ⟨e, he, rfl⟩) | he
  · exact takesOperandAbort_of_means (loads_means p op e he) hr (stopsWith_read _)
  · obtain ⟨g, hg⟩ := logicForms_means p op e he
    exact takesOperandAbort_of_means hg hr (stopsWith_read _)
  · exact takesOperandAbort_of_means (compareForms_means p op e he) hr (stopsWith_read _)
  · exact takesOperandAbort_of_means (bitForms_means p op mk he) hr (stopsWith_read _)

/-- ADC and SBC outside decimal mode (R358). -/
theorem addBody_stops {sub : Bool} {f : Format} {t : State} (hd : t.sr.d = false) :
    StopsWith (sourceOperand f p op t) (addBody sub f p op t) := by
  rw [addBody, if_neg (by simp [hd])]
  exact stopsWith_read _

theorem sumForms_takeReadAbort {mk : Form} (hmk : mk ∈ addForms ++ subtractForms) (hr : ready (mk p op) s = true)
    (hd : s.sr.d = false) : takesReadAbort (mk p op) s (operand (mk p op) s) := by
  rcases List.mem_append.1 hmk with he | he
  · exact takesOperandAbort_of_means (addForms_means p op mk he) hr (addBody_stops hd)
  · exact takesOperandAbort_of_means (subtractForms_means p op mk he) hr (addBody_stops hd)

/-! ### Calls and return addresses -/

theorem returnBytes_eq (p : Pfx) : returnBytes p = if p.size = .b8 then 2 else p.size.bytes := by
  unfold returnBytes
  cases p.size <;> rfl

/-- An instruction that is ready has a return address no wider than `W` (R411). -/
theorem returnBytes_le {i : Instr} (hpfx : i.view.pfx = p) (hr : ready i s = true) : ¬ (past i s).w < 8 * returnBytes p := by
  have hle := opBits_le_of_ready hr
  have hw := s.w_ge
  rw [hpfx, opBits] at hle
  change ¬ s.w < _
  rw [returnBytes_eq]
  split <;> omega

section Calls

variable {i : Instr} (hpfx : i.view.pfx = p) (hr : ready i s = true)
include hpfx hr

/-- A call finds its target first (R412). -/
theorem callTo_stops_target (target : Res Word) : StopsWith target (callTo p target (past i s)) := by
  unfold callTo
  rw [if_neg (returnBytes_le hpfx hr)]
  exact stopsWith_read _

/-- Then it pushes its return address (R411 to R413). -/
theorem callTo_stops_push {target : Res Word} {v : Word} (htarget : target = .ok v) :
    StopsWith (writeCells s (s.denv p) s.mem (downward (s.sp (s.denv p))
      (bigEndian (if p.size = .b8 then 2 else p.size.bytes) ((past i s).pc - 1).toNat)))
      (callTo p target (past i s)) := by
  unfold callTo
  rw [if_neg (returnBytes_le hpfx hr), ← returnBytes_eq]
  exact .after_read htarget (.in_write (push_stops i s (s.denv p) (returnBytes p) _))

end Calls

theorem addressForms_takeReadAbort {mk : Form} (hmk : mk ∈ stores.map (·.2) ++ calls) (hr : ready (mk p op) s = true) :
    takesReadAbort (mk p op) s (address (mk p op) s) := by
  rw [List.mem_append, List.mem_map] at hmk
  rcases hmk with ⟨e, he, rfl⟩ | he
  · have h := stores_means p op e he
    exact h.takesReadAbort (permitted_of_ready hr) (address_stopsInPlace ..)
      (h.of_ready (g := fun f op t => storeBody f p op (storedValue e.1 t) t) hr (h.address_eq s ▸ stopsWith_read _))
  · have h := calls_means p op mk he
    exact takesAddressAbort_of_means h (permitted_of_ready hr) (callTo_stops_target h.pfx hr _)

theorem jumpForms_takeReadAbort {mk : Form} (hmk : mk ∈ jumps ++ leaForms ++ peaForms) (hp : permitted (mk p op) s = true) :
    takesReadAbort (mk p op) s (address (mk p op) s) := by
  simp only [List.mem_append] at hmk
  rcases hmk with (he | he) | he
  · exact takesAddressAbort_of_means (jumps_means p op mk he) hp (stopsWith_read _)
  · exact takesAddressAbort_of_means (leaForms_means p op mk he) hp (stopsWith_read _)
  · exact takesAddressAbort_of_means (peaForms_means p op mk he) hp (stopsWith_read _)

/-! ### Stores and read-modify-write instructions -/

theorem storedValue_past (r : Option Reg) (i : Instr) (s : State) : storedValue r (past i s) = storedValue r s := by
  cases r with
  | none => rfl
  | some q => exact State.setPc_reg ..

theorem stores_takeWriteAbort (hm : s.mem.wf = true) {r : Option Reg} {mk : Form} (hmk : (r, mk) ∈ stores) {ea : Word}
    (hr : ready (mk p op) s = true) (ha : address (mk p op) s = .ok ea) :
    takesWriteAbort (mk p op) s (s.denv p) (upward ea (littleEndian p.size.bytes (storedValue r s).toNat)) := by
  have h := stores_means p op _ hmk
  refine h.takesWriteAbort (permitted_of_ready hr) hm
    (h.of_ready (g := fun f op t => storeBody f p op (storedValue r t) t) hr (.after_read (h.address_eq s ▸ ha) ?_))
  rw [storedValue_past]
  exact memWrite_stops ..

theorem opBits_div (p : Pfx) : opBits p / 8 = p.size.bytes := by rw [opBits, Nat.mul_div_cancel_left _ (by decide)]

theorem opBits_le (p : Pfx) : opBits p ≤ 64 := by
  unfold opBits
  cases p.size <;> decide

theorem quickMemorySteps_takeAborts (hm : s.mem.wf = true) {k : Step1} {mk : Pfx → Word → BitVec 3 → Instr}
    (hmk : (k, true, mk) ∈ memorySteps ++ quickMemorySteps) {cnt : BitVec 3} {ea : Word} (hp : permitted (mk p op cnt) s = true)
    (ha : address (mk p op cnt) s = .ok ea) :
    takesReadAbort (mk p op cnt) s (memRead s (s.denv p) ea 1) ∧
    ∀ m, memRead s (s.denv p) ea 1 = .ok m → takesWriteAbort (mk p op cnt) s (s.denv p)
      (upward ea (littleEndian 1 (steppedTimes k 8 (cnt.toNat + 1) (m.toNat, s.sr.c)).1)) := by
  have h : Means (mk p op cnt) p fun f op => quickMemBody k f p op cnt := memoryStepForms_means p op cnt _ hmk
  have ha' := h.address_eq s ▸ ha
  refine ⟨h.takesReadAbort hp (memRead_stopsInPlace ..) (.of_read_past (.after_read ha' (stopsWith_read _))), fun m hread => ?_⟩
  have hread' := (memRead_past (mk p op cnt) s (s.denv p) ea 1).trans hread
  rw [← repeated_eq_steppedTimes (by decide) (by decide) k _ _ (memRead_lt hread)]
  exact h.takesWriteAbort hp hm (.after_read ha' (.after_read hread' (.in_write (memWrite_stops ..))))

theorem memorySteps_takeAborts (hm : s.mem.wf = true) {k : Step1} {mk : Pfx → Word → BitVec 3 → Instr}
    (hmk : (k, false, mk) ∈ memorySteps ++ quickMemorySteps) {cnt : BitVec 3} {ea : Word} (hr : ready (mk p op cnt) s = true)
    (ha : address (mk p op cnt) s = .ok ea) :
    takesReadAbort (mk p op cnt) s (memRead s (s.denv p) ea p.size.bytes) ∧
    ∀ m, memRead s (s.denv p) ea p.size.bytes = .ok m → takesWriteAbort (mk p op cnt) s (s.denv p)
      (upward ea (littleEndian p.size.bytes (steppedTimes k (opBits p) 1 (m.toNat, s.sr.c)).1)) := by
  have h : Means (mk p op cnt) p fun f op => withWidth p (modifyBody k f p op) := memoryStepForms_means p op cnt _ hmk
  have ha' := h.address_eq s ▸ ha
  have hp := permitted_of_ready hr
  refine ⟨h.takesReadAbort hp (memRead_stopsInPlace ..) (.of_read_past (h.of_ready hr (.after_read ha' (stopsWith_read _)))),
    fun m hread => ?_⟩
  have hread' := (memRead_past (mk p op cnt) s (s.denv p) ea _).trans hread
  rw [← repeated_eq_steppedTimes (opBits_pos p) (opBits_le p) k _ _ (memRead_lt hread)]
  exact h.takesWriteAbort hp hm (h.of_ready hr (.after_read ha' (.after_read hread' (.in_write (memWrite_stops ..)))))

theorem testForms_takeAborts (hm : s.mem.wf = true) {set : Bool} {mk : Form} (hmk : (set, mk) ∈ testForms) {ea : Word}
    (hr : ready (mk p op) s = true) (ha : address (mk p op) s = .ok ea) :
    takesReadAbort (mk p op) s (memRead s (s.denv p) ea p.size.bytes) ∧
    ∀ m, memRead s (s.denv p) ea p.size.bytes = .ok m → takesWriteAbort (mk p op) s (s.denv p)
      (upward ea (littleEndian p.size.bytes (if set then m ||| s.a else m &&& ~~~s.a).toNat)) := by
  have h : Means (mk p op) p fun f op => withWidth p (testBody set f p op) := testForms_means p op _ hmk
  have ha' := h.address_eq s ▸ ha
  have hp := permitted_of_ready hr
  refine ⟨h.takesReadAbort hp (memRead_stopsInPlace ..) (.of_read_past (h.of_ready hr (.after_read ha' (stopsWith_read _)))),
    fun m hread => ?_⟩
  have hread' := (memRead_past (mk p op) s (s.denv p) ea _).trans hread
  exact h.takesWriteAbort hp hm (h.of_ready hr (.after_read ha' (.after_read hread' (.in_write (memWrite_stops ..)))))

/-! ### Pushes and calls -/

theorem pushes_takeWriteAbort (hm : s.mem.wf = true) {whole : Bool} {r : Reg} {mk : Form} (hmk : (whole, r, mk) ∈ pushes)
    (hr : ready (mk p op) s = true) : takesWriteAbort (mk p op) s (s.denv p)
      (downward (s.sp (s.denv p)) (bigEndian (if whole then s.wBytes else p.size.bytes) (s.reg r).toNat)) := by
  have h := pushes_means p op _ hmk
  have hreg : (past (mk p op) s).reg r = s.reg r := State.setPc_reg ..
  refine h.takesWriteAbort (permitted_of_ready hr) hm ?_
  cases whole with
  | true => exact hreg ▸ push_stops ..
  | false =>
    have hwidth := withWidth_of_ready hr fun t => pushBody p (t.reg r) t
    rw [h.pfx] at hwidth
    change StopsWith _ (withWidth p (fun t => pushBody p (t.reg r) t) (past (mk p op) s))
    rw [hwidth]
    exact hreg ▸ push_stops ..

theorem peaForms_takeWriteAbort (hm : s.mem.wf = true) {mk : Form} (hmk : mk ∈ peaForms) {ea : Word}
    (hp : permitted (mk p op) s = true) (ha : address (mk p op) s = .ok ea) :
    takesWriteAbort (mk p op) s (s.denv p) (downward (s.sp (s.denv p)) (bigEndian s.wBytes ea.toNat)) := by
  have h := peaForms_means p op mk hmk
  exact h.takesWriteAbort hp hm (.after_read (h.address_eq s ▸ ha) (push_stops ..))

theorem calls_takeWriteAbort (hm : s.mem.wf = true) {mk : Form} (hmk : mk ∈ calls ++ relativeCalls)
    (hr : ready (mk p op) s = true) (htarget : mk ∈ relativeCalls ∨ ∃ t, address (mk p op) s = .ok t) :
    takesWriteAbort (mk p op) s (s.denv p) (downward (s.sp (s.denv p))
      (bigEndian (if p.size = .b8 then 2 else p.size.bytes) ((past (mk p op) s).pc - 1).toNat)) := by
  have hp := permitted_of_ready hr
  by_cases hrel : mk ∈ relativeCalls
  · have h := relativeCalls_means p op mk hrel
    exact h.takesWriteAbort hp hm (callTo_stops_push h.pfx hr rfl)
  · obtain ⟨t, ht⟩ := htarget.resolve_left hrel
    have h := calls_means p op mk ((List.mem_append.1 hmk).resolve_right hrel)
    exact h.takesWriteAbort hp hm (callTo_stops_push h.pfx hr (h.address_eq s ▸ ht))

end Clauses

end Sys2Proof.Machine
end

section
/-! The aborts of pulls and returns, of the location at `E`, of block steps and of system instructions (R107, R626, R664). -/

namespace Sys2Proof.Machine

open Sys2Proof.Claims

/-! ### Pushes of fixed registers -/

section Clauses

variable {p : Pfx} {op : Word} {s : State}

theorem prb_takesWriteAbort (hm : s.mem.wf = true) (hp : permitted (.prb p) s = true) :
    takesWriteAbort (.prb p) s (s.denv p) (downward (s.sp (s.denv p)) (bigEndian s.wBytes s.b.toNat)) :=
  have hi : HasBody (.prb p) s (pushReplaceBase p) := rfl
  takesWriteAbort_of_stops hi hp hm (.in_write (push_stops (.prb p) s (s.denv p) s.wBytes s.b))

theorem php_takesWriteAbort (hm : s.mem.wf = true) (hp : permitted (.php p) s = true) :
    takesWriteAbort (.php p) s s.cur (downward (s.sp s.cur) [BitVec.ofNat 8 (statusNumber s.sr true true)]) := by
  have hi : HasBody (.php p) s pushStatus := rfl
  have hbytes : bigEndian 1 ((statusByte s.sr true true).setWidth 64).toNat = [BitVec.ofNat 8 (statusNumber s.sr true true)] := by
    rw [← statusByte_toNat, BitVec.toNat_setWidth_of_le (by decide)]
    simp [bigEndian, littleEndian]
  rw [← hbytes]
  exact takesWriteAbort_of_stops hi hp hm (push_stops (.php p) s s.cur 1 _)

/-! ### Pulls -/

/-- What goes on after a pull stops where the pull does. -/
theorem StopsWith.in_pull {α β : Type} {r : Res α} {q : Res (Word × State)} {f : Word → State → Res β} (h : StopsWith r q) :
    StopsWith r (match q with | .error e => .error e | .ok (m, t) => f m t) := ⟨fun e he => by rw [h.eq e he]⟩

/-- A pull after the fetch stops where the read above the stack pointer does (R270). -/
theorem pull_past_stops (i : Instr) (s : State) (env : Env) (k : Nat) :
    StopsWith (memRead s env (s.sp env + 1) k) (pull (past i s) env k) := by
  have h := pull_stops (past i s) env k
  rw [memRead_past] at h
  exact h

theorem pulls_takeReadAbort {whole : Bool} {r : Reg} {mk : Form} (hmk : (whole, r, mk) ∈ pulls) (hr : ready (mk p op) s = true) :
    takesReadAbort (mk p op) s
      (memRead s (s.denv p) (s.sp (s.denv p) + 1) (if whole then s.wBytes else p.size.bytes)) := by
  have h := pulls_means p op _ hmk
  have hp := permitted_of_ready hr
  cases whole with
  | true => exact h.takesReadAbort hp (memRead_stopsInPlace ..) (.in_pull (pull_past_stops (mk p op) s (s.denv p) s.wBytes))
  | false =>
    have h' : Means (mk p op) p fun _ _ => withWidth p (pullBody r p) := h
    exact h'.takesReadAbort hp (memRead_stopsInPlace ..) (h'.of_ready (g := fun _ _ => pullBody r p) hr
      (.in_pull (pull_past_stops (mk p op) s (s.denv p) p.size.bytes)))

theorem plp_takesReadAbort (hp : permitted (.plp p) s = true) :
    takesReadAbort (.plp p) s (memRead s s.cur (s.sp s.cur + 1) 1) :=
  have hi : HasBody (.plp p) s pullStatus := rfl
  takesReadAbort_of_stops hi hp (memRead_stopsInPlace ..) (.in_pull (pull_past_stops (.plp p) s s.cur 1))

theorem rts_takesReadAbort (hr : ready (.rts p) s = true) :
    takesReadAbort (.rts p) s (memRead s s.cur (s.sp s.cur + 1) (if p.size = .b8 then 2 else p.size.bytes)) := by
  have hi : HasBody (.rts p) s (returnBody p) := rfl
  rw [← returnBytes_eq]
  refine takesReadAbort_of_stops hi (permitted_of_ready hr) (memRead_stopsInPlace ..) ?_
  rw [returnBody, if_neg (returnBytes_le (p := p) rfl hr)]
  exact .in_pull (pull_past_stops (.rts p) s s.cur (returnBytes p))

/-! ### Frames -/

/-- A frame stops where the read of its extended status byte does. -/
theorem pullFrame_stops_byte (s : State) (env : Env) : StopsWith (memRead s env (s.sp env + 1) 1) (pullFrame s env) :=
  .in_pull (pull_stops s env 1)

/-- The size code of a byte, as a number (R39). -/
theorem sizeOfCode_setWidth (x : Word) : sizeOfCode (x.setWidth 2) = announcedBytes x := by
  have hcode : ∀ n : BitVec 2, x.setWidth 2 = n ↔ x.toNat % 4 = n.toNat := fun n => by
    rw [← BitVec.toNat_inj, BitVec.toNat_setWidth]
  simp only [sizeOfCode, announcedBytes, hcode]
  rfl

/-- A frame that goes on to its address stops where the read of the address does. -/
theorem pullFrame_stops_address {s : State} {env : Env} {x : Word} (hx : memRead s env (s.sp env + 1) 1 = .ok x)
    (h0 : x.toNat % 4 ≠ 0) (hk : announcedBytes x ≤ s.wBytes) (hpriv : ¬ (env = .user ∧ x.getLsbD 3 = true)) :
    StopsWith (memRead s env (s.sp env + 2) (announcedBytes x)) (pullFrame s env) := by
  have hsf : x.setWidth 2 ≠ 0 := fun h => h0 (by simpa using congrArg BitVec.toNat h)
  have hcode : codeBytes (x.setWidth 2) = announcedBytes x := by rw [codeBytes_eq, if_neg hsf, sizeOfCode_setWidth]
  have hlegal : ¬ (announcedBytes x = 0 ∨ s.wBytes < announcedBytes x) := by
    have hpos := sizeOfCode_pos (x.setWidth 2)
    rw [sizeOfCode_setWidth] at hpos
    omega
  have hpull := pull_stops (s.setSp env (s.sp env + word 1)) env (announcedBytes x)
  rw [memRead_above_pulled, BitVec.add_assoc] at hpull
  simp only [pullFrame, pull_of_memRead (by decide) hx, hcode, if_neg hlegal, if_neg hpriv]
  exact .in_pull hpull

/-- RTU stops where its frame does (R691). -/
theorem returnFromTrap_stops {s : State} {env : Env} {α : Type} {r : Res α} (henv : pullEnv s = env)
    (h : StopsWith r (pullFrame s env)) : StopsWith r (returnFromTrap s) :=
  ⟨fun e he => by rw [returnFromTrap, henv, h.eq e he]⟩

theorem rtu_takesReadAborts (hp : permitted (.rtu p) s = true) :
    takesReadAbort (.rtu p) s (memRead s (pullsFrom s) (s.sp (pullsFrom s) + word 1) 1) ∧
    ∀ x, memRead s (pullsFrom s) (s.sp (pullsFrom s) + word 1) 1 = .ok x → framePulled s x →
      takesReadAbort (.rtu p) s (memRead s (pullsFrom s) (s.sp (pullsFrom s) + word 2) (announcedBytes x)) := by
  have hi : HasBody (.rtu p) s returnFromTrap := rfl
  have henv : pullEnv (past (.rtu p) s) = pullsFrom s := pullEnv_eq s
  refine ⟨takesReadAbort_of_stops hi hp (memRead_stopsInPlace ..) (returnFromTrap_stops henv (.of_read_past (i := .rtu p) ?_)),
    fun x hx ⟨h0, hk, hpriv⟩ =>
      takesReadAbort_of_stops hi hp (memRead_stopsInPlace ..) (returnFromTrap_stops henv (.of_read_past (i := .rtu p) ?_))⟩
  · exact pullFrame_stops_byte (past (.rtu p) s) (pullsFrom s)
  · exact pullFrame_stops_address ((memRead_past ..).trans hx) h0 hk hpriv

/-! ### RTI -/

section Rti

variable {t : State} {env : Env} (henv : pullEnv t = env)
include henv

/-- RTI pulls the status byte first (R692). -/
theorem returnFromInterrupt_stops_status : StopsWith (memRead t env (t.sp env + 1) 1) (returnFromInterrupt t) := by
  rw [returnFromInterrupt, henv]
  exact .in_pull (pull_stops t env 1)

variable {st : Word} (hst : memRead t env (t.sp env + 1) 1 = .ok st)
include hst

/-- With bit 5 set, two bytes of address follow (R693). -/
theorem returnFromInterrupt_stops_compat (h5 : st.getLsbD 5 = true) :
    StopsWith (memRead t env (t.sp env + 2) 2) (returnFromInterrupt t) := by
  have hpull := pull_stops (t.setSp env (t.sp env + word 1)) env 2
  rw [memRead_above_pulled, BitVec.add_assoc] at hpull
  simp only [returnFromInterrupt, henv, pull_of_memRead (by decide) hst, h5, if_true]
  exact .in_pull hpull

/-- Else a frame follows (R692). -/
theorem returnFromInterrupt_stops_frame (h5 : st.getLsbD 5 = false) {α : Type} {r : Res α}
    (h : StopsWith r (pullFrame (t.setSp env (t.sp env + 1)) env)) : StopsWith r (returnFromInterrupt t) :=
  ⟨fun e he => by
    simp only [returnFromInterrupt, henv, pull_of_memRead (by decide) hst, h5, Bool.false_eq_true, if_false,
      show word 1 = 1 from rfl, h.eq e he]⟩

end Rti

theorem rti_takesReadAborts (hp : permitted (.rti p) s = true) :
    takesReadAbort (.rti p) s (memRead s (pullsFrom s) (s.sp (pullsFrom s) + word 1) 1) ∧
    ∀ st, memRead s (pullsFrom s) (s.sp (pullsFrom s) + word 1) 1 = .ok st →
      if st.getLsbD 5 then takesReadAbort (.rti p) s (memRead s (pullsFrom s) (s.sp (pullsFrom s) + word 2) 2)
      else takesReadAbort (.rti p) s (memRead s (pullsFrom s) (s.sp (pullsFrom s) + word 2) 1) ∧
        ∀ x, memRead s (pullsFrom s) (s.sp (pullsFrom s) + word 2) 1 = .ok x → framePulled s x →
          takesReadAbort (.rti p) s (memRead s (pullsFrom s) (s.sp (pullsFrom s) + word 3) (announcedBytes x)) := by
  have hi : HasBody (.rti p) s returnFromInterrupt := rfl
  have henv : pullEnv (past (.rti p) s) = pullsFrom s := pullEnv_eq s
  have habort : ∀ {j k : Nat}, StopsWith
      (memRead (past (.rti p) s) (pullsFrom s) ((past (.rti p) s).sp (pullsFrom s) + word j) k)
      (returnFromInterrupt (past (.rti p) s)) →
      takesReadAbort (.rti p) s (memRead s (pullsFrom s) (s.sp (pullsFrom s) + word j) k) := fun h =>
    takesReadAbort_of_stops hi hp (memRead_stopsInPlace ..) (.of_read_past h)
  refine ⟨habort (returnFromInterrupt_stops_status henv), fun st hst => ?_⟩
  have hst' := (memRead_past (.rti p) s _ _ _).trans hst
  cases h5 : st.getLsbD 5 with
  | true => exact habort (returnFromInterrupt_stops_compat henv hst' h5)
  | false =>
    have habove : ∀ (j k : Nat), memRead ((past (.rti p) s).setSp (pullsFrom s) ((past (.rti p) s).sp (pullsFrom s) + 1))
        (pullsFrom s) (((past (.rti p) s).setSp (pullsFrom s) ((past (.rti p) s).sp (pullsFrom s) + 1)).sp (pullsFrom s) + word j)
        k = memRead (past (.rti p) s) (pullsFrom s) ((past (.rti p) s).sp (pullsFrom s) + word (j + 1)) k := fun j k => by
      rw [memRead_setSp, State.sp_setSp_same, memRead_low_add, BitVec.add_assoc, ← word_succ]
    refine ⟨habort (returnFromInterrupt_stops_frame henv hst' h5 ?_), fun x hx ⟨h0, hk, hpriv⟩ =>
      habort (returnFromInterrupt_stops_frame henv hst' h5 ?_)⟩
    · rw [← habove 1 1]
      exact pullFrame_stops_byte ..
    · rw [← habove 2]
      refine pullFrame_stops_address ((habove 1 1).trans ((memRead_past ..).trans hx)) h0 ?_ hpriv
      rw [State.wBytes, State.setSp_cfg]
      exact hk

/-! ### The location at `E` -/

theorem llaE_takesReadAbort (hr : ready (.llaE p) s = true) :
    takesReadAbort (.llaE p) s (memRead s (s.denv p) s.e p.size.bytes) :=
  have h : Means (.llaE p) p fun _ _ => withWidth p (loadLinkedBody p) := ⟨rfl, fun _ => rfl⟩
  h.takesReadAbort (permitted_of_ready hr) (memRead_stopsInPlace ..)
    (.of_read_past (h.of_ready (g := fun _ _ => loadLinkedBody p) hr (stopsWith_read _)))

theorem bcnE_takesReadAbort (hr : ready (.bcnE p) s = true) :
    takesReadAbort (.bcnE p) s (memRead s s.cur s.e p.size.bytes) :=
  have h : Means (.bcnE p) p fun _ _ => withWidth p (countMemBody p) := ⟨rfl, fun _ => rfl⟩
  h.takesReadAbort (permitted_of_ready hr) (memRead_stopsInPlace ..)
    (.of_read_past (h.of_ready (g := fun _ _ => countMemBody p) hr (stopsWith_read _)))

theorem scaE_takesWriteAbort (hm : s.mem.wf = true) (hr : ready (.scaE p) s = true)
    (hlink : s.link = some { env := s.denv p, addr := s.e, nb := p.size.bytes }) :
    takesWriteAbort (.scaE p) s (s.denv p) (upward s.e (littleEndian p.size.bytes s.a.toNat)) := by
  have h : Means (.scaE p) p fun _ _ => withWidth p (storeConditionalBody p) := ⟨rfl, fun _ => rfl⟩
  refine h.takesWriteAbort (permitted_of_ready hr) hm (h.of_ready (g := fun _ _ => storeConditionalBody p) hr ?_)
  have hlink' : (past (.scaE p) s).link =
      some { env := (past (.scaE p) s).denv p, addr := (past (.scaE p) s).e, nb := p.size.bytes } := hlink
  rw [storeConditionalBody, if_pos hlink']
  exact .in_write (memWrite_stops ..)

/-! ### Block steps -/

/-- A block step with elements left stops where its element does (R540). -/
theorem blockStep_stops {α : Type} {r : Res α} {start dec : Word} {body : State → Res State} {t : State} (ha : t.a ≠ 0)
    (h : StopsWith r (body t)) : StopsWith r (blockStep start dec body t) := by
  rw [blockStep, if_neg ha]
  exact .in_write h

theorem moveForms_takeAborts (hm : s.mem.wf = true) {src dst : State → Env} {up : Bool} {mk : Form}
    (hmk : (src, dst, up, mk) ∈ moveForms) (hp : permitted (mk p op) s = true) (ha : s.a ≠ 0) :
    takesReadAbort (mk p op) s (memRead s (src s) s.x 1) ∧
    ∀ v, memRead s (src s) s.x 1 = .ok v →
      takesWriteAbort (mk p op) s (dst s) (upward s.y (littleEndian 1 v.toNat)) := by
  have hi := moveForms_means p op _ hmk s
  have henvs : src (past (mk p op) s) = src s ∧ dst (past (mk p op) s) = dst s := by
    simp only [moveForms, List.mem_cons, Prod.mk.injEq, List.not_mem_nil, or_false] at hmk
    rcases hmk with ⟨rfl, rfl, -⟩ | ⟨rfl, rfl, -⟩ | ⟨rfl, rfl, -⟩ | ⟨rfl, rfl, -⟩ | ⟨rfl, rfl, -⟩ | ⟨rfl, rfl, -⟩
    all_goals exact ⟨rfl, rfl⟩
  obtain ⟨hsrc, hdst⟩ := henvs
  refine ⟨takesReadAbort_of_stops hi hp (memRead_stopsInPlace ..) (.of_read_past (i := mk p op) (blockStep_stops ha ?_)), fun v hv =>
    takesWriteAbort_of_stops hi hp hm (blockStep_stops ha ?_)⟩
  · rw [← hsrc]
    exact stopsWith_read _
  · dsimp only
    rw [hsrc, hdst]
    exact .after_read ((memRead_past ..).trans hv) (.in_write (memWrite_stops ..))

theorem fillElement_stops (i : Instr) (s : State) (env : Env) (k : Nat) :
    StopsWith (writeCells s env s.mem (upward s.x (littleEndian k s.y.toNat))) (fillElement env k (past i s)) :=
  .in_write (memWrite_stops i s env s.x k s.y)

theorem fil_takesWriteAbort (hm : s.mem.wf = true) (hr : ready (.fil p) s = true) (ha : s.a ≠ 0)
    (hunit : s.cfg.filUnit = .bytes → s.a.toNat % p.size.bytes = 0) :
    takesWriteAbort (.fil p) s s.cur (upward s.x (littleEndian p.size.bytes s.y.toNat)) := by
  have hi : HasBody (.fil p) s (withWidth p (fillBody s.pc p)) := rfl
  have hstop := fillElement_stops (.fil p) s s.cur p.size.bytes
  refine takesWriteAbort_of_stops hi (permitted_of_ready hr) hm ?_
  rw [show withWidth p (fillBody s.pc p) (past (.fil p) s) = fillBody s.pc p (past (.fil p) s) from withWidth_of_ready hr _]
  have hfil : (past (.fil p) s).cfg.filUnit = s.cfg.filUnit := rfl
  cases hu : s.cfg.filUnit with
  | elements =>
    simp only [fillBody, hfil, hu]
    exact blockStep_stops ha hstop
  | bytes =>
    simp only [fillBody, hfil, hu]
    rw [if_pos (show (past (.fil p) s).a.toNat % p.size.bytes = 0 from hunit hu)]
    exact blockStep_stops ha hstop

theorem filu_takesWriteAbort (hm : s.mem.wf = true) (hp : permitted (.filu p) s = true) (ha : s.a ≠ 0) :
    takesWriteAbort (.filu p) s .user (upward s.x (littleEndian 1 s.y.toNat)) :=
  have hi : HasBody (.filu p) s (blockStep s.pc 1 (fillElement .user 1)) := rfl
  takesWriteAbort_of_stops hi hp hm (blockStep_stops ha (fillElement_stops (.filu p) s .user 1))

/-! ### System instructions -/

theorem exists_of_readable {env : Env} {ea : Word} {k : Nat} (h : readable s env ea k = true) :
    ∃ v, memRead s env ea k = .ok v := by
  unfold readable at h
  split at h
  · exact ⟨_, ‹_›⟩
  · cases h

theorem senvE_takesReadAbort (hp : permitted (.senvE p op) s = true) (hmmu : s.cfg.mmu = true)
    (hcc : op.toNat % 256 < s.cfg.ncont) {j : Nat} (hj : j < 3)
    (hread : ∀ l, l < j → readable s s.cur (s.e + word (l * s.wBytes)) s.wBytes = true) :
    takesReadAbort (.senvE p op) s (memRead s s.cur (s.e + word (j * s.wBytes)) s.wBytes) := by
  have hi : HasBody (.senvE p op) s (loadContainerBody op) := rfl
  have hindex : containerIndex op (past (.senvE p op) s) = .ok (op.toNat % 256) := containerIndex_ok hmmu hcc
  have hat : ∀ l, l < j → ∃ v, memRead (past (.senvE p op) s) s.cur (s.e + word (l * s.wBytes)) s.wBytes = .ok v := fun l hl =>
    have ⟨v, hv⟩ := exists_of_readable (hread l hl)
    ⟨v, (memRead_past ..).trans hv⟩
  refine takesReadAbort_of_stops hi hp (memRead_stopsInPlace ..) (.of_read_past (i := .senvE p op) ?_)
  rw [loadContainerBody, hindex]
  obtain rfl | rfl | rfl : j = 0 ∨ j = 1 ∨ j = 2 := by omega
  · rw [Nat.zero_mul, show s.e + word 0 = s.e from BitVec.add_zero _]
    exact stopsWith_read _
  · obtain ⟨v, hv⟩ := hat 0 (by decide)
    rw [Nat.zero_mul, show s.e + word 0 = s.e from BitVec.add_zero _] at hv
    rw [Nat.one_mul]
    exact .after_read hv (stopsWith_read _)
  · obtain ⟨v, hv⟩ := hat 0 (by decide)
    obtain ⟨u, hu⟩ := hat 1 (by decide)
    rw [Nat.zero_mul, show s.e + word 0 = s.e from BitVec.add_zero _] at hv
    rw [Nat.one_mul] at hu
    exact .after_read hv (.after_read hu (stopsWith_read _))

/-- A permitted instruction performs its body after the fetch, whatever state its aborts are taken from. -/
theorem performFrom_of_permitted {i : Instr} (hp : permitted i s = true) (undo : State) (body : State → Res State) :
    performFrom undo i.view.row.page i.view.row.format i.view.pfx s body =
      finish undo (s.pc + BitVec.ofNat 64 (instrBytes i.view.row.page i.view.row.format i.view.pfx)) (body (past i s)) := by
  simp only [permitted, Bool.and_eq_true, Bool.or_eq_true, bne_iff_ne, Bool.not_eq_true'] at hp
  obtain ⟨hmode, hoption⟩ := hp
  have hprivop : ¬ ((i.view.row.page = .sys ∨ i.view.pfx.um = true) ∧ s.isHyp = false) := by grind
  have hselect : ¬ (i.view.pfx.um = true ∧ s.cfg.hyp = false) := by grind
  rw [performFrom, if_neg hprivop, if_neg hselect, past]

/-- A pointer is read from the parameters, the containers, the match codes and memory. -/
theorem readPointer_congr {s t : State} (hc : t.cfg = s.cfg) (hk : t.cont = s.cont) (hh : t.mh = s.mh)
    (hu : t.muCode = s.muCode) (hm : t.mem = s.mem) (env : Env) (f : Format) (p : Pfx) (ia : Word) :
    readPointer env f p ia t = readPointer env f p ia s := by
  simp only [readPointer, memRead_congr hc hk hh hu hm, widenAddress, State.w_eq_of_cfg hc, hc]

/-- The abort of JPU (abs) is taken in user mode (R626). -/
theorem jpuIndAbs_takesAbort (hp : permitted (.jpuIndAbs p op) s = true) (hhyp : s.cfg.hyp = true) {k : AbortKind} {m : Memory}
    (hread : readPointer .user .indAbs p
      (operandAddress .indAbs p op (past (.jpuIndAbs p op) s) + offsetValue p (past (.jpuIndAbs p op) s)) s =
        .error { stop := .abort k, mem := m }) :
    exec (.jpuIndAbs p op) s = abortOf (.jpuIndAbs p op) { s with sr := { s.sr with h := false } } k := by
  have hi : exec (.jpuIndAbs p op) s = performFrom (s.setH false) .sys .indAbs p s (enterUserIndirectBody p op) := rfl
  have hcleared : s.setH false = { s with sr := { s.sr with h := false } } := by simp [State.setH, hhyp]
  have hread' : readPointer .user .indAbs p
      (operandAddress .indAbs p op (past (.jpuIndAbs p op) s) + offsetValue p (past (.jpuIndAbs p op) s))
      ((past (.jpuIndAbs p op) s).setH false) = .error { stop := .abort k, mem := m } :=
    (readPointer_congr (s := s) (t := (past (.jpuIndAbs p op) s).setH false) rfl rfl rfl rfl rfl ..).trans hread
  have hbody : enterUserIndirectBody p op (past (.jpuIndAbs p op) s) = .error { stop := .abort k, mem := m } := by
    rw [enterUserIndirectBody, if_neg (show ¬ (past (.jpuIndAbs p op) s).cfg.hyp = false by simp [past, hhyp]), hread']
  obtain rfl : m = s.mem := (readPointer_stopsInPlace ..).mem_eq _ hread
  have hnext : ∀ (t : State) (v : Word), enterAbort t (low t.w v) k = enterAbort t v k := fun t v => by simp [enterAbort]
  have hfinish := hi.trans (performFrom_of_permitted hp (s.setH false) (enterUserIndirectBody p op))
  rw [hfinish, hbody, hcleared]
  exact congrArg answer (hnext { s with sr := { s.sr with h := false } } _).symm

end Clauses

end Sys2Proof.Machine
end

section
/-! Decoding what is left of an instruction when a byte of it cannot be fetched (R128, R150, R663). -/

namespace Sys2Proof

open Sys2Proof.Machine (toBytes toBytes_length)

theorem splitPrefix1_append {bs : List Byte} (h : bs ≠ []) (more : List Byte) :
    splitPrefix1 (bs ++ more) = ((splitPrefix1 bs).1, (splitPrefix1 bs).2 ++ more) := by
  cases bs with
  | nil => exact absurd rfl h
  | cons b bs => by_cases hb : isPrefix1 b = true <;> simp [splitPrefix1, hb]

theorem splitPrefix2_append {bs : List Byte} (h : bs ≠ []) (more : List Byte) :
    splitPrefix2 (bs ++ more) = ((splitPrefix2 bs).1, (splitPrefix2 bs).2 ++ more) := by
  cases bs with
  | nil => exact absurd rfl h
  | cons b bs => by_cases hb : isPrefix2 b = true <;> simp [splitPrefix2, hb]

theorem splitPage_append {bs : List Byte} (h : bs ≠ []) (more : List Byte) :
    splitPage (bs ++ more) = ((splitPage bs).1, (splitPage bs).2 ++ more) := by
  cases bs with
  | nil => exact absurd rfl h
  | cons b bs => cases hb : pageOf b <;> simp [splitPage, hb]

/-- A head that decodes does so whatever follows. -/
theorem decodeHead_append {bs : List Byte} {h : Head} (hh : decodeHead bs = .ok h) (more : List Byte) :
    decodeHead (bs ++ more) = .ok { h with rest := h.rest ++ more } := by
  have hpage : (splitPage (splitPrefix2 (splitPrefix1 bs).2).2).2 ≠ [] := fun h0 => by simp [decodeHead, h0] at hh
  have hprefix2 : (splitPrefix2 (splitPrefix1 bs).2).2 ≠ [] := fun h0 => hpage (by rw [h0]; rfl)
  have hprefix1 : (splitPrefix1 bs).2 ≠ [] := fun h0 => hprefix2 (by rw [h0]; rfl)
  have hbytes : bs ≠ [] := fun h0 => hprefix1 (by rw [h0]; rfl)
  obtain ⟨code, rest, hcode⟩ := List.exists_cons_of_ne_nil hpage
  simp only [decodeHead, hcode, Except.ok.injEq] at hh
  subst hh
  simp only [decodeHead, splitPrefix1_append hbytes, splitPrefix2_append hprefix1, splitPage_append hprefix2, hcode,
    List.cons_append]

section Truncated

variable (at_ : MvnfuCode) {i : Instr} (hwf : i.wellFormed = true)
include hwf

/-- The head of an encoded instruction (R150). -/
theorem decodeHead_encode : decodeHead (encode at_ i) = .ok (i.encodedHead at_ []) := by
  rw [Instr.wellFormed, Bool.and_eq_true] at hwf
  rw [encode, decodeHead_encoded (readsAsOpcode_encodeCode at_ hwf.1), Instr.encodedHead, List.append_nil]

/-- Bytes that end before the opcode byte do not decode. -/
theorem decodeHead_take_error {j : Nat}
    (hj : j + i.view.row.format.operandBytes i.view.pfx < (encode at_ i).length) :
    ∃ e, decodeHead ((encode at_ i).take j) = .error e := by
  cases hh : decodeHead ((encode at_ i).take j) with
  | error e => exact ⟨e, rfl⟩
  | ok h =>
    have hwhole := decodeHead_append hh ((encode at_ i).drop j)
    rw [List.take_append_drop, decodeHead_encode at_ hwf, Except.ok.injEq] at hwhole
    have hrest := congrArg (fun g : Head => g.rest.length) hwhole
    simp only [Instr.encodedHead, List.append_nil, toBytes_length, List.length_append, List.length_drop] at hrest
    omega

/-- Bytes that end after the opcode byte, but before the last, give its entry of the table and no instruction. -/
theorem decodeOperand_take_truncated {j : Nat} (hj : j < (encode at_ i).length)
    (hcode : ¬ j + i.view.row.format.operandBytes i.view.pfx < (encode at_ i).length) :
    ∃ h b, decodeHead ((encode at_ i).take j) = .ok h ∧ lookupOpcode at_ h = .ok b ∧ decodeOperand b h = .error .truncated ∧
      h.pfx = i.view.pfx ∧ builtRow b i.view.pfx = i.view.row := by
  obtain ⟨b, hb⟩ := i.exists_builder
  have hprefix : i.prefixOk = true := by
    rw [Instr.wellFormed, Bool.and_eq_true] at hwf
    exact hwf.1
  have hreads := readsAsOpcode_encodeCode at_ hprefix
  have hentry := (opcodeEntry_encodeCode at_ i.view).trans hb.entry
  have hlength : (encode at_ i).length = (encodePfx i.view.pfx ++ encodePage i.view.row.page).length + 1 +
      i.view.row.format.operandBytes i.view.pfx := by
    simp only [encode, List.length_append, List.length_cons, toBytes_length]
    omega
  obtain ⟨n, rfl⟩ : ∃ n, j = (encodePfx i.view.pfx ++ encodePage i.view.row.page).length + (n + 1) :=
    ⟨j - (encodePfx i.view.pfx ++ encodePage i.view.row.page).length - 1, by omega⟩
  have hbytes : (encode at_ i).take ((encodePfx i.view.pfx ++ encodePage i.view.row.page).length + (n + 1)) =
      encodePfx i.view.pfx ++ encodePage i.view.row.page ++
        encodeCode at_ i.view :: (toBytes (i.view.row.format.operandBytes i.view.pfx) i.view.op).take n := by
    rw [encode, List.take_length_add_append, List.take_succ_cons]
  refine ⟨_, b, hbytes ▸ decodeHead_encoded hreads _, lookupOpcode_of_entry hreads hentry, ?_, rfl, hb.row _⟩
  have hshort : ((toBytes (i.view.row.format.operandBytes i.view.pfx) i.view.op).take n).length <
      i.view.row.format.operandBytes i.view.pfx := by
    rw [List.length_take, toBytes_length]
    omega
  rw [decodeOperand, hb.row, if_pos (show i.view.row.admits i.view.pfx = true from hprefix)]
  exact if_pos hshort

end Truncated

end Sys2Proof
end

section
/-! A step that cannot fetch a byte of the instruction (R128, R663). -/

namespace Sys2Proof.Machine

open Sys2Proof.Claims

/-- Fetching stops at the first byte that cannot be fetched. -/
theorem fetchBytes_eq_stop (s : State) {x : Stop} : ∀ (bs : List Byte) (n j : Nat), bs.length < n →
    (∀ m b, bs[m]? = some b → fetches s (j + m) b) →
    readByte s s.cur (low s.w (s.pc + word (j + bs.length))) .fetch = .error x →
    fetchBytes s n (low s.w (s.pc + word j)) = (bs, some x)
  | bs, 0, _, hn, _, _ => absurd hn (Nat.not_lt_zero _)
  | [], n + 1, j, _, _, hx => by
    have hx' : readByte s s.cur (low s.w (s.pc + word j)) .fetch = .error x := hx
    simp only [fetchBytes, hx']
  | b :: bs, n + 1, j, hn, hbs, hx => by
    have hfirst : readByte s s.cur (low s.w (s.pc + word j)) .fetch = .ok b := hbs 0 b rfl
    have hothers : ∀ m c, bs[m]? = some c → fetches s (j + 1 + m) c := fun m c hc => by
      rw [show j + 1 + m = j + (m + 1) by omega]
      exact hbs (m + 1) c hc
    have hstop : readByte s s.cur (low s.w (s.pc + word (j + 1 + bs.length))) .fetch = .error x := by
      rw [show j + 1 + bs.length = j + (bs.length + 1) by omega]
      exact hx
    have hrest := fetchBytes_eq_stop s bs n (j + 1) (by simpa using hn) hothers hstop
    simp only [fetchBytes, hfirst, low_pc_word_succ, hrest]

/-- A step at an instruction that the fetch does not find answers what the fetch answers (R12). -/
theorem step_of_fetchInstr_error {s : State} {a : Answer} (hat : atInstruction s) (hfetch : fetchInstr s = .error a) :
    step s = a := by
  obtain ⟨hcore, hrun, hint⟩ := hat
  simp [step, hcore, hrun, hint, hfetch]

/-- An abort with memory as it was, whatever the address after the instruction is truncated to. -/
theorem abortAnswer_eq_abortOf (i : Instr) (s : State) (k : AbortKind) :
    abortAnswer s (s.pc + BitVec.ofNat 64 (instrBytes i.view.row.page i.view.row.format i.view.pfx)) k s.mem = abortOf i s k := by
  have hnext : ∀ v : Word, enterAbort s (low s.w v) k = enterAbort s v k := fun v => by simp [enterAbort]
  exact congrArg answer (hnext _).symm

/-- A byte of the instruction that cannot be fetched gives its abort, but PRIVOP once a privileged opcode is known (R663). -/
theorem step_of_unfetched {s : State} (hat : atInstruction s) {i : Instr} {j : Nat} {k : AbortKind} (hwf : i.wellFormed = true)
    (hj : j < (encode s.cfg.mvnfuAt i).length)
    (hbytes : ∀ l b, l < j → (encode s.cfg.mvnfuAt i)[l]? = some b → fetches s l b)
    (hx : readByte s s.cur (low s.w (s.pc + word j)) .fetch = .error (.abort k)) :
    step s =
      if j + i.view.row.format.operandBytes i.view.pfx < (encode s.cfg.mvnfuAt i).length then
        answer (enterAbort s (s.pc + word j) k)
      else if s.isHyp = false ∧ (i.view.row.page = .sys ∨ i.view.pfx.um = true) then abortOf i s .privop
      else abortOf i s k := by
  obtain ⟨-, hmax⟩ := Laws.encodingHasDeclaredLength i s.cfg.mvnfuAt
  have htake : ((encode s.cfg.mvnfuAt i).take j).length = j := by rw [List.length_take]; omega
  have hbefore : ∀ m b, ((encode s.cfg.mvnfuAt i).take j)[m]? = some b → fetches s (0 + m) b := fun m b hm => by
    have hlt : m < j := htake ▸ (List.getElem?_eq_some_iff.1 hm).1
    rw [List.getElem?_take_of_lt hlt] at hm
    rw [Nat.zero_add]
    exact hbytes m b hlt hm
  have hwindow : fetchWindow s = ((encode s.cfg.mvnfuAt i).take j, some (.abort k)) := by
    have h := fetchBytes_eq_stop s _ maxInstrBytes 0 (by omega) hbefore (by rw [Nat.zero_add, htake]; exact hx)
    rwa [show s.pc + word 0 = s.pc from BitVec.add_zero _] at h
  refine step_of_fetchInstr_error hat ?_
  rw [fetchInstr, hwindow]
  by_cases hcode : j + i.view.row.format.operandBytes i.view.pfx < (encode s.cfg.mvnfuAt i).length
  · obtain ⟨e, he⟩ := decodeHead_take_error s.cfg.mvnfuAt hwf hcode
    rw [if_pos hcode]
    simp only [decode, he, fetchFailure, htake]
    rfl
  · obtain ⟨h, b, hhead, hlookup, hoperand, hpfx, hrow⟩ := decodeOperand_take_truncated s.cfg.mvnfuAt hwf hj hcode
    have hcond : ((i.view.row.page = .sys ∨ i.view.pfx.um = true) ∧ s.isHyp = false) =
        (s.isHyp = false ∧ (i.view.row.page = .sys ∨ i.view.pfx.um = true)) := propext And.comm
    rw [if_neg hcode]
    simp only [decode, hhead, hlookup, hoperand, fetchFailure, hrow, hpfx, hcond, fetchStop, abortAnswer_eq_abortOf,
      if_true]

end Sys2Proof.Machine
end

section
/-! Loads and stores take the abort of their access (R107, R128, R626, R663, R664, R666). -/

namespace Sys2Proof.Machine

open Sys2Proof.Claims

/-- Settles O51: each clause is a lemma of its group: the body of the instruction stops where the access does, and a stopped
body is an abort from the state before the instruction; the fetch is the decoding of what is left of the instruction. -/
theorem loadsAndStoresTakeTheAbortOfTheirAccess : Obligations.LoadsAndStoresTakeTheAbortOfTheirAccess := by
  intro p op s hwf nb env sp ret
  have hm : s.mem.wf = true := (GoodState.of_wellFormed hwf).memory.canonical
  refine ⟨fun mk hmk => operandForms_takeReadAbort hmk, fun mk hmk => sumForms_takeReadAbort hmk,
    fun mk hmk => addressForms_takeReadAbort hmk, fun mk hmk => jumpForms_takeReadAbort hmk,
    ?stores, ?steps,
    fun set mk hmk ea => testForms_takeAborts hm hmk,
    fun whole r mk hmk => pushes_takeWriteAbort hm hmk, prb_takesWriteAbort hm, php_takesWriteAbort hm,
    fun mk hmk ea => peaForms_takeWriteAbort hm hmk, fun mk hmk => calls_takeWriteAbort hm hmk,
    fun whole r mk hmk => pulls_takeReadAbort hmk, plp_takesReadAbort, rts_takesReadAbort, rti_takesReadAborts,
    rtu_takesReadAborts, llaE_takesReadAbort, scaE_takesWriteAbort hm, bcnE_takesReadAbort,
    fun src dst up mk hmk => moveForms_takeAborts hm hmk, fil_takesWriteAbort hm, filu_takesWriteAbort hm,
    fun hp hmmu hcc j => senvE_takesReadAbort hp hmmu hcc, fun hp hhyp k m => jpuIndAbs_takesAbort hp hhyp,
    fun hat i j k => step_of_unfetched hat⟩
  case stores =>
    intro r mk hmk ea hr ha
    have habort := stores_takeWriteAbort hm hmk hr ha
    cases r <;> exact habort
  case steps =>
    intro k quick mk hmk cnt ea i n hr ha
    cases quick with
    | true =>
      have hn : n = 8 := if_pos rfl
      rw [hn]
      exact quickMemorySteps_takeAborts hm hmk (permitted_of_ready hr) ha
    | false =>
      have hn : n / 8 = p.size.bytes := opBits_div p
      rw [hn]
      exact memorySteps_takeAborts hm hmk hr ha

end Sys2Proof.Machine
end

section
/-! What decodes, written again: the decoder's answer encodes to the bytes it was read from (R150 to R178), part by part in
the order of the bytes. -/

namespace Sys2Proof

open Sys2Proof.Machine (toBytes ofBytes ofBytes_lt toBytes_eq littleEndian_ofBytes)

/-! ### Prefix and page bytes -/

/-- A prefix1 byte has no bits but its fields (R151). -/
theorem prefix1Byte_readPrefix1 : ∀ b : Byte, isPrefix1 b = true → prefix1Byte (readPrefix1 b) = b := by decide

/-- A prefix2 byte has no bits but its fields (R152). -/
theorem prefix2Byte_readPrefix2 : ∀ b : Byte, isPrefix2 b = true → prefix2Byte (readPrefix2 b) = b := by decide

theorem splitPrefix1_written (bs : List Byte) :
    ((splitPrefix1 bs).1.map prefix1Byte).toList ++ (splitPrefix1 bs).2 = bs := by
  cases bs with
  | nil => rfl
  | cons b bs =>
    cases hb : isPrefix1 b with
    | true => simp [splitPrefix1, hb, prefix1Byte_readPrefix1 b hb]
    | false => simp [splitPrefix1, hb]

theorem splitPrefix2_written (bs : List Byte) :
    ((splitPrefix2 bs).1.map prefix2Byte).toList ++ (splitPrefix2 bs).2 = bs := by
  cases bs with
  | nil => rfl
  | cons b bs =>
    cases hb : isPrefix2 b with
    | true => simp [splitPrefix2, hb, prefix2Byte_readPrefix2 b hb]
    | false => simp [splitPrefix2, hb]

/-- A byte that selects a page is that page's byte (R155). -/
theorem encodePage_of_pageOf : ∀ b : Byte, ∀ pg ∈ pageOf b, encodePage pg = [b] := by decide

theorem splitPage_written (bs : List Byte) : encodePage (splitPage bs).1 ++ (splitPage bs).2 = bs := by
  cases bs with
  | nil => rfl
  | cons b bs =>
    cases hb : pageOf b with
    | some pg => simp [splitPage, hb, encodePage_of_pageOf b pg hb]
    | none => simp [splitPage, hb, encodePage]

/-- The prefixes, the page and the opcode byte that were read are those that stand there (R150). -/
theorem eq_written_of_decodeHead {bs : List Byte} {h : Head} (hh : decodeHead bs = .ok h) :
    bs = encodePfx h.pfx ++ encodePage h.page ++ h.code :: h.rest := by
  cases hcode : (splitPage (splitPrefix2 (splitPrefix1 bs).2).2).2 with
  | nil => simp [decodeHead, hcode] at hh
  | cons code rest =>
    simp only [decodeHead, hcode, Except.ok.injEq] at hh
    subst hh
    have h3 := splitPage_written (splitPrefix2 (splitPrefix1 bs).2).2
    rw [hcode] at h3
    simp only [encodePfx, List.append_assoc, h3, splitPrefix2_written, splitPrefix1_written]

/-! ### The opcode table -/

/-- What of an operand a format has a place for: all of it, or nothing where no operand bytes follow the opcode (R166). -/
def Format.carried : Format → Word → Word
  | .implied, _ | .accum, _ | .eInd, _ | .quickReg, _ | .quickE, _ => 0
  | _, op => op

/-- A format carries the value of as many bytes as it has operand bytes. -/
theorem Format.carried_ofBytes {f : Format} {p : Pfx} {bs : List Byte} (h : bs.length = f.operandBytes p) :
    f.carried (ofBytes bs) = ofBytes bs := by
  cases f
  case implied | accum | eInd | quickReg | quickE =>
    obtain rfl : bs = [] := List.eq_nil_of_length_eq_zero h
    rfl
  all_goals rfl

/-- `b` makes instructions of the row that the table of page `pg` lists under `key`: its row does not depend on the fields,
and every field the row has a place for is kept. -/
structure IsEntry (pg : Page) (key : Nat) (b : Builder) : Prop where
  view : ∀ p n op, (b p n op).view =
    { row := builtRow b p, pfx := p, cnt := if pg = .quick then n else 0, op := (builtRow b p).format.carried op }
  page : ∀ p, (builtRow b p).page = pg
  code : ∀ p, (builtRow b p).code.toNat = key

/-- A table of page `pg` with nothing but such entries. -/
def AreEntries (pg : Page) : List (Nat × Builder) → Prop
  | [] => True
  | (key, b) :: rest => IsEntry pg key b ∧ AreEntries pg rest

/-- What is found in such a table is the entry under the key. -/
theorem AreEntries.of_entryAt {pg : Page} {key : Nat} {b : Builder} : ∀ {l : List (Nat × Builder)}, AreEntries pg l →
    entryAt key l = some b → IsEntry pg key b
  | [], _, h => by cases h
  | (c, b') :: rest, ⟨hfirst, hrest⟩, h => by
    rw [entryAt] at h
    split at h
    next hkey =>
      obtain rfl := Option.some.inj h
      exact hkey ▸ hfirst
    next => exact hrest.of_entryAt h

/-- The standard page's table lists rows of that page under their codes (R172, R174). -/
theorem stdTable_areEntries (code : Nat) : AreEntries .std (stdTable code) := by
  rw [stdTable]
  split <;> repeat' constructor
  all_goals intros; rfl

/-- So does the EXT page's (R176). -/
theorem extTable_areEntries (code : Nat) : AreEntries .ext (extTable code) := by
  rw [extTable]
  split <;> repeat' constructor
  all_goals intros; rfl

/-- So does the SYS page's (R177). -/
theorem sysRows_areEntries : AreEntries .sys sysRows := by
  repeat' constructor
  all_goals intros; rfl

/-- So does the QUICK page's, under the codes with count field 0 (R175). -/
theorem quickRows_areEntries (code : Byte) :
    AreEntries .quick (if code &&& 0x80 = 0 then quickRow0 else quickRow1) := by
  split <;> repeat' constructor
  all_goals intros; rfl

/-- The code that a page lists an opcode byte under: on the QUICK page the byte without its count field (R175). -/
def Page.listedCode (pg : Page) (code : Byte) : Byte := if pg = .quick then code &&& 0x8F else code

/-- What the lookup finds is an entry of the page's table (R172 to R177). -/
theorem isEntry_of_opcodeEntry {pg : Page} {code : Byte} {b : Builder} (h : opcodeEntry pg code = some b) :
    IsEntry pg (pg.listedCode code).toNat b := by
  cases pg with
  | std => exact (stdTable_areEntries code.toNat).of_entryAt h
  | ext => exact (extTable_areEntries code.toNat).of_entryAt h
  | sys => exact sysRows_areEntries.of_entryAt h
  | quick => exact (quickRows_areEntries code).of_entryAt h

/-- An opcode byte is looked up in the table of its page, as `SYS_MVNFU_AT` says (R172 to R177). -/
theorem opcodeEntry_of_lookupOpcode {at_ : MvnfuCode} {h : Head} {b : Builder} (hb : lookupOpcode at_ h = .ok b) :
    opcodeEntry h.page (sysCode at_ h.page h.code) = some b := by
  rw [lookupOpcode] at hb
  split at hb
  · cases hb
  · split at hb
    · cases hb
    · split at hb
      next hfound => rw [hfound, Except.ok.inj hb]
      next => cases hb

/-! ### The instruction -/

/-- A QUICK opcode byte is its code and its count field (R175). -/
theorem listed_or_countField : ∀ c : Byte, (c &&& 0x8F) ||| ((countField c).setWidth 8 <<< 4) = c := by decide

/-- The opcode byte of what an entry makes is the byte it was looked up by (R172 to R177). -/
theorem IsEntry.encodeCode_eq {at_ : MvnfuCode} {pg : Page} {code : Byte} {b : Builder}
    (hb : IsEntry pg (pg.listedCode (sysCode at_ pg code)).toNat b) (p : Pfx) (op : Word) :
    encodeCode at_ (b p (countField code) op).view = code := by
  have hcode : (builtRow b p).code = pg.listedCode (sysCode at_ pg code) := BitVec.eq_of_toNat_eq (hb.code p)
  simp only [encodeCode, hb.view, hb.page, hcode, Page.listedCode]
  by_cases hq : pg = .quick
  · have hsys : ∀ c, sysCode at_ pg c = c := sysCode_of_ne_sys (by simp [hq]) at_
    simp only [hsys, if_pos hq]
    exact listed_or_countField code
  · simp only [if_neg hq, sysCode_sysCode]

/-- At most eight operand bytes follow an opcode (R166). -/
theorem Format.operandBytes_le (f : Format) (p : Pfx) : f.operandBytes p ≤ 8 := by
  have hsize : p.size.bytes ≤ 8 := by cases p.size <;> decide
  cases f
  case imm | rel => exact hsize
  case zp | zpX | zpY | relAm | abs | absX | absY | relWideAm => simp only [Format.operandBytes]; split <;> decide
  all_goals simp [Format.operandBytes]

/-- At most eight bytes are those of their value (R104). -/
theorem toBytes_ofBytes {bs : List Byte} (h : bs.length ≤ 8) : toBytes bs.length (ofBytes bs) = bs := by
  rw [toBytes_eq, littleEndian_ofBytes bs h]

/-- The operand is the value of the row's operand bytes, which all stand there, and the row admits the prefixes. -/
theorem eq_of_decodeOperand {h : Head} {b : Builder} {i : Instr} {rest : List Byte}
    (hi : decodeOperand b h = .ok (i, rest)) :
    (builtRow b h.pfx).admits h.pfx = true ∧ ∃ operand, h.rest = operand ++ rest ∧
      operand.length = (builtRow b h.pfx).format.operandBytes h.pfx ∧
      i = b h.pfx (countField h.code) (ofBytes operand) := by
  simp only [decodeOperand] at hi
  split at hi
  case isFalse => cases hi
  case isTrue hadmits =>
    split at hi
    case isTrue => cases hi
    case isFalse hlong =>
      obtain ⟨rfl, rfl⟩ := Prod.mk.inj (Except.ok.inj hi)
      exact ⟨hadmits, _, (List.take_append_drop _ _).symm, List.length_take_of_le (Nat.le_of_not_lt hlong), rfl⟩

/-- What is decoded after an opcode is well-formed; its opcode byte and operand bytes are those that stand there. -/
theorem written_of_decodeOperand {at_ : MvnfuCode} {h : Head} {b : Builder} {i : Instr} {rest : List Byte}
    (hb : IsEntry h.page (h.page.listedCode (sysCode at_ h.page h.code)).toNat b) (hi : decodeOperand b h = .ok (i, rest)) :
    i.wellFormed = true ∧ encode at_ i ++ rest = encodePfx h.pfx ++ encodePage h.page ++ h.code :: h.rest := by
  obtain ⟨hadmits, operand, hrest, hlen, rfl⟩ := eq_of_decodeOperand hi
  have hlt := ofBytes_lt operand
  have hbytes := toBytes_ofBytes (hlen ▸ Format.operandBytes_le _ h.pfx : operand.length ≤ 8)
  rw [hlen] at hlt hbytes
  constructor
  · simp [Instr.wellFormed, Instr.prefixOk, Instr.operandOk, hb.view, hadmits, Format.carried_ofBytes hlen, hlt]
  · rw [encode, hb.encodeCode_eq]
    simp [hb.view, hb.page, Format.carried_ofBytes hlen, hbytes, hrest]

/-- What decodes is well-formed, and is written as the bytes it was decoded from (R150 to R178). -/
theorem eq_encode_append_of_decode {at_ : MvnfuCode} {bs rest : List Byte} {i : Instr} (h : decode at_ bs = .ok (i, rest)) :
    i.wellFormed = true ∧ bs = encode at_ i ++ rest := by
  rw [decode] at h
  split at h
  case h_1 => cases h
  case h_2 hd hhead =>
    split at h
    case h_1 => cases h
    case h_2 b hlookup =>
      have hentry := isEntry_of_opcodeEntry (opcodeEntry_of_lookupOpcode hlookup)
      obtain ⟨hwf, hwritten⟩ := written_of_decodeOperand hentry h
      exact ⟨hwf, (eq_written_of_decodeHead hhead).trans hwritten.symm⟩

/-- Settles O2: prefixes, page, opcode and operand are each read back from what the encoder writes. -/
theorem decodeOfEncodeIsTheInstruction : Obligations.DecodeOfEncodeIsTheInstruction :=
  fun at_ _ rest hwf => decode_encode_append at_ hwf rest

/-- Settles O3: every byte the decoder takes is written again from what it was read as. -/
theorem encodeOfDecodeIsTheBytes : Obligations.EncodeOfDecodeIsTheBytes :=
  fun _ _ _ _ => eq_encode_append_of_decode

/-- Settles O1: each word is decoded by evaluation. -/
theorem wordsOfEveryPageDecode : Obligations.WordsOfEveryPageDecode := by
  unfold Obligations.WordsOfEveryPageDecode
  decide

end Sys2Proof
end

section
/-! Bytes that are no instruction are refused by name (R156, R178). -/

namespace Sys2Proof.Machine

open Sys2Proof.Claims

/-- The fetched bytes begin with those that are known to stand from the pc on (R128). -/
theorem fetchWindow_eq_append {s : State} {bs : List Byte} (hlen : bs.length ≤ maxInstrBytes)
    (hbytes : ∀ j b, bs[j]? = some b → fetches s j b) : ∃ rest, (fetchWindow s).1 = bs ++ rest := by
  obtain ⟨rest, hrest⟩ := fetchBytes_eq_append s bs maxInstrBytes 0 hlen (by simpa using hbytes)
  exact ⟨rest, by simpa [fetchWindow, word] using hrest⟩

theorem fetchWindow_eq_cons {s : State} {b : Byte} (hb : fetches s 0 b) : ∃ rest, (fetchWindow s).1 = b :: rest := by
  refine fetchWindow_eq_append (bs := [b]) (by simp [maxInstrBytes]) ?_
  rintro (_ | j) c hc
  · exact Option.some.inj hc ▸ hb
  · cases hc

theorem fetchWindow_eq_cons_cons {s : State} {b c : Byte} (hb : fetches s 0 b) (hc : fetches s 1 c) :
    ∃ rest, (fetchWindow s).1 = b :: c :: rest := by
  refine fetchWindow_eq_append (bs := [b, c]) (by simp [maxInstrBytes]) ?_
  rintro (_ | _ | j) d hd
  · exact Option.some.inj hd ▸ hb
  · exact Option.some.inj hd ▸ hc
  · cases hd

/-- An opcode that the lookup refuses is refused by the step, except an unused SYS code in user mode (R178, R619). -/
theorem step_of_lookupOpcode_error {s : State} (hat : atInstruction s) {h : Head} {e : DecodeError}
    (hhead : decodeHead (fetchWindow s).1 = .ok h) (hlookup : lookupOpcode s.cfg.mvnfuAt h = .error e)
    (hmode : h.page = .sys → s.isHyp = true) : step s = .refused (.undecodable e) := by
  have hnotpriv : ¬ (h.page = .sys ∧ s.isHyp = false) := by
    rintro ⟨hsys, huser⟩
    simp [hmode hsys] at huser
  refine step_of_fetchInstr_error hat ?_
  simp only [fetchInstr, decode, hhead, hlookup, fetchFailure, if_neg hnotpriv]

/-! ### Bytes that stand first -/

/-- A byte that is neither a prefix1, a prefix2 nor a page byte. -/
def Plain (b : Byte) : Prop := isPrefix1 b = false ∧ isPrefix2 b = false ∧ pageOf b = none

/-- Such a byte is an opcode byte of the standard page (R150). -/
theorem decodeHead_plain {b : Byte} (hb : Plain b) (rest : List Byte) :
    decodeHead (b :: rest) = .ok { pfx := .none, page := .std, code := b, rest := rest } := by
  obtain ⟨h1, h2, hpage⟩ := hb
  simp [decodeHead, splitPrefix1, splitPrefix2, splitPage, h1, h2, hpage, Pfx.none]

/-- A page byte is followed by an opcode byte of its page (R155). -/
theorem decodeHead_page {pg : Page} (hpg : pg ≠ .std) (b : Byte) (rest : List Byte) :
    decodeHead (pageByte pg :: b :: rest) = .ok { pfx := .none, page := pg, code := b, rest := rest } := by
  cases pg with
  | std => exact absurd rfl hpg
  | ext => rfl
  | sys => rfl
  | quick => rfl

/-! ### Codes that the tables do not list -/

/-- The reserved bytes look like no byte that may stand before an opcode (R156). -/
theorem plain_of_mem_reservedBytes : ∀ b ∈ reservedBytes, Plain b := by
  unfold Plain
  decide

/-- The codes of the standard page that stand for nothing (R178). -/
def unusedStdCodes : List Byte := [0x54, 0x5C, 0xD4]

/-- The standard page's table does not list them, and they are read as opcode bytes. -/
theorem opcodeEntry_std_eq_none : ∀ b ∈ unusedStdCodes, Plain b ∧ b ∉ reservedBytes ∧ opcodeEntry .std b = none := by
  intro b hb
  fin_cases hb <;> exact ⟨⟨rfl, rfl, rfl⟩, by decide, rfl⟩

/-- What is found in a table has its key there. -/
theorem mem_keys_of_entryAt {key : Nat} {make : Builder} : ∀ {l : List (Nat × Builder)}, entryAt key l = some make →
    key ∈ l.map Prod.fst
  | [], h => by cases h
  | (c, _) :: rest, h => by
    rw [entryAt] at h
    split at h
    next hkey => exact hkey ▸ .head _
    next => exact .tail _ (mem_keys_of_entryAt h)

/-- A code is not found in a table whose keys are all among codes that it is not. -/
theorem entryAt_eq_none {codes : List Byte} {l : List (Nat × Builder)} {b : Byte}
    (hkeys : ∀ key ∈ l.map Prod.fst, key ∈ codes.map BitVec.toNat) (hb : b ∉ codes) : entryAt b.toNat l = none := by
  cases hfound : entryAt b.toNat l with
  | none => rfl
  | some make =>
    obtain ⟨c, hc, hcb⟩ := List.mem_map.1 (hkeys _ (mem_keys_of_entryAt hfound))
    exact absurd (BitVec.eq_of_toNat_eq hcb ▸ hc) hb

/-- The EXT page's table lists no code but those of R176. -/
theorem opcodeEntry_ext_eq_none {b : Byte} (hb : b ∉ extCodes) : opcodeEntry .ext b = none := by
  have hkeys : ∀ key ∈ (extTable b.toNat).map Prod.fst, key ∈ extCodes.map BitVec.toNat := by
    rw [extTable]
    split <;> decide
  exact entryAt_eq_none hkeys hb

/-- The SYS page's table lists no code but those of R177, among them both codes that `SYS_MVNFU_AT` exchanges. -/
theorem opcodeEntry_sys_eq_none (at_ : MvnfuCode) {b : Byte} (hb : b ∉ sysCodes) :
    opcodeEntry .sys (sysCode at_ .sys b) = none := by
  have hkept : sysCode at_ .sys b = b := by
    refine if_neg ?_
    rintro ⟨-, -, rfl | rfl⟩ <;> exact hb (by decide)
  rw [hkept]
  exact entryAt_eq_none (l := sysRows) (by decide) hb

/-- An opcode byte that the table of its page does not list is an unused code (R178). -/
theorem lookupOpcode_of_unlisted {at_ : MvnfuCode} {h : Head}
    (hplain : h.page = .std → Plain h.code ∧ h.code ∉ reservedBytes)
    (hnone : opcodeEntry h.page (sysCode at_ h.page h.code) = none) :
    lookupOpcode at_ h = .error (.unusedCode (pageByte h.page) h.code) := by
  have hplaced : ¬ (h.page = .std ∧ (isPrefix2 h.code ∨ (isPrefix1 h.code ∧ h.pfx.am = false))) := by
    rintro ⟨hstd, hbad⟩
    obtain ⟨⟨h1, h2, -⟩, -⟩ := hplain hstd
    simp [h1, h2] at hbad
  have hused : ¬ (h.page = .std ∧ h.code ∈ reservedBytes) := fun ⟨hstd, hmem⟩ => (hplain hstd).2 hmem
  rw [lookupOpcode, if_neg hplaced, if_neg hused, hnone]

/-- A reserved byte in the place of an opcode is refused as such (R156). -/
theorem lookupOpcode_of_reserved {at_ : MvnfuCode} {h : Head} (hstd : h.page = .std) (hplain : Plain h.code)
    (hmem : h.code ∈ reservedBytes) : lookupOpcode at_ h = .error (.reservedPrefix h.code) := by
  obtain ⟨h1, h2, -⟩ := hplain
  simp [lookupOpcode, hstd, h1, h2, hmem]

/-! ### The step -/

section Refused

variable {s : State} (hat : atInstruction s)
include hat

/-- A first byte that can only be an opcode byte is refused as the lookup refuses it. -/
theorem step_of_first_refused {b : Byte} {e : DecodeError} (hb : fetches s 0 b) (hplain : Plain b)
    (hlookup : ∀ rest, lookupOpcode s.cfg.mvnfuAt { pfx := .none, page := .std, code := b, rest := rest } = .error e) :
    step s = .refused (.undecodable e) := by
  obtain ⟨rest, hwindow⟩ := fetchWindow_eq_cons hb
  exact step_of_lookupOpcode_error hat (hwindow ▸ decodeHead_plain hplain rest) (hlookup rest) (fun h => nomatch h)

/-- A reserved byte is refused by name (R156). -/
theorem step_of_reservedPrefix {b : Byte} (hmem : b ∈ reservedBytes) (hb : fetches s 0 b) :
    step s = .refused (.undecodable (.reservedPrefix b)) := by
  have hplain : Plain b := plain_of_mem_reservedBytes b hmem
  exact step_of_first_refused hat hb hplain fun _ => lookupOpcode_of_reserved rfl hplain hmem

/-- An unused code of the standard page is refused by name (R178). -/
theorem step_of_unusedStd {b : Byte} (hmem : b ∈ unusedStdCodes) (hb : fetches s 0 b) :
    step s = .refused (.undecodable (.unusedCode 0x00 b)) := by
  obtain ⟨hplain, hnot, hnone⟩ := opcodeEntry_std_eq_none b hmem
  refine step_of_first_refused hat hb hplain fun _ => lookupOpcode_of_unlisted (fun _ => ⟨hplain, hnot⟩) ?_
  rwa [sysCode_of_ne_sys (pg := .std) (by decide)]

/-- A code that its page's table does not list is refused after the page byte, on the SYS page in hypervisor mode (R178,
R619). -/
theorem step_of_unlisted {pg : Page} {b : Byte} (hpg : pg ≠ .std) (hmode : pg = .sys → s.isHyp = true)
    (hnone : opcodeEntry pg (sysCode s.cfg.mvnfuAt pg b) = none) (hpage : fetches s 0 (pageByte pg))
    (hb : fetches s 1 b) : step s = .refused (.undecodable (.unusedCode (pageByte pg) b)) := by
  obtain ⟨rest, hwindow⟩ := fetchWindow_eq_cons_cons hpage hb
  have hlookup := lookupOpcode_of_unlisted (h := { pfx := .none, page := pg, code := b, rest := rest })
    (fun hstd => absurd hstd hpg) hnone
  exact step_of_lookupOpcode_error hat (hwindow ▸ decodeHead_page hpg b rest) hlookup hmode

end Refused

/-! ### The QUICK page -/

/-- Every QUICK code is listed, without prefixes, for a row with at most one operand byte (R175). -/
theorem exists_quickEntry : ∀ b : Byte, (opcodeEntry .quick b).any (fun make =>
    (builtRow make .none).admits .none && decide ((builtRow make .none).format.operandBytes .none ≤ 1)) = true := by decide

/-- Every code of the QUICK page decodes, given one more byte (R175, R178). -/
theorem exists_decode_quick (at_ : MvnfuCode) (b c : Byte) (rest : List Byte) :
    ∃ q, decode at_ (pageByte .quick :: b :: c :: rest) = .ok q := by
  have hentry := exists_quickEntry b
  rw [Option.any_eq_true] at hentry
  obtain ⟨make, hfound, hmake⟩ := hentry
  simp only [Bool.and_eq_true, decide_eq_true_eq] at hmake
  obtain ⟨hadmits, hone⟩ := hmake
  have hlookup : lookupOpcode at_ { pfx := .none, page := .quick, code := b, rest := c :: rest } = .ok make :=
    lookupOpcode_of_entry (fun h => nomatch h) (by rwa [sysCode_of_ne_sys (pg := .quick) (by decide)])
  have hlong : ¬ (c :: rest).length < (builtRow make .none).format.operandBytes .none := by
    rw [List.length_cons]
    omega
  simp only [decode, decodeHead_page (pg := .quick) (by decide), hlookup, decodeOperand, hadmits, if_true, if_neg hlong]
  exact ⟨_, rfl⟩

/-- Settles O4: each refusal is the lookup's, found behind the bytes that are fetched; every QUICK code has an entry. -/
theorem reservedPrefixesAndUnusedCodesAreRefused : Obligations.ReservedPrefixesAndUnusedCodesAreRefused := by
  intro s hat
  refine ⟨fun _ => step_of_reservedPrefix hat, fun _ => step_of_unusedStd hat, fun b hb => ?ext, fun b hb hhyp => ?sys,
    exists_decode_quick⟩
  case ext =>
    have hnone : opcodeEntry .ext (sysCode s.cfg.mvnfuAt .ext b) = none := by
      rw [sysCode_of_ne_sys (by decide), opcodeEntry_ext_eq_none hb]
    exact step_of_unlisted (pg := .ext) hat (by decide) (fun h => nomatch h) hnone
  case sys => exact step_of_unlisted (pg := .sys) hat (by decide) (fun _ => hhyp) (opcodeEntry_sys_eq_none _ hb)

end Sys2Proof.Machine
end

section
/-! Effective addresses and source values (R203 to R233, R251): each part of a mode's sum stands for an integer modulo `2^W`,
and so does the sum. -/

namespace Sys2Proof.Machine

open Sys2Proof.Claims

/-! ### Words that stand for integers modulo `2^W` -/

/-- The word stands for the integer: the two agree modulo `2^W`. -/
def State.Denotes (s : State) (u : Word) (v : Int) : Prop := (u.toNat : Int) ≡ v [ZMOD 2 ^ s.w]

section Denotes

variable {s : State} {u u' : Word} {v v' : Int}

theorem State.denotes_toNat (s : State) (u : Word) : s.Denotes u u.toNat := Int.ModEq.refl _

/-- What a word stands for modulo `2^64` it stands for modulo `2^W`. -/
theorem State.denotes_of_emod (h : (u.toNat : Int) % 2 ^ 64 = v % 2 ^ 64) : s.Denotes u v :=
  Int.ModEq.of_dvd (pow_dvd_pow 2 s.w_le) h

theorem State.Denotes.low_eq (h : s.Denotes u v) : low s.w u = wrap s.w v := low_eq_wrap s.w_le h

theorem State.Denotes.low (h : s.Denotes u v) : s.Denotes (low s.w u) v := by
  refine Int.ModEq.trans ?_ h
  rw [low_toNat, Int.natCast_emod, Nat.cast_pow]
  exact Int.mod_modEq _ _

theorem State.Denotes.add (h : s.Denotes u v) (h' : s.Denotes u' v') : s.Denotes (u + u') (v + v') := by
  have hsum : s.Denotes (u + u') (u.toNat + u'.toNat) := State.denotes_of_emod (by simp [BitVec.toNat_add])
  exact Int.ModEq.trans hsum (Int.ModEq.add h h')

/-- A read sees of its address only the integer modulo `2^W` (R107, R127). -/
theorem State.Denotes.memRead_eq (h : s.Denotes u v) (env : Env) (k : Nat) :
    memRead s env u k = memRead s env (wrap s.w v) k := by
  simp only [memRead, ← h.low_eq, low_low]

end Denotes

/-! ### Widening and the offset register -/

/-- An `n`-bit number as SHORT_ADDR_EXT widens it (R101). -/
def State.widenedNumber (s : State) (n v : Nat) : Int := match s.cfg.shortAddr with
  | .zero => v
  | .sign => signed n v

/-- The offset register of the OF field as a number (R228). -/
def offsetNumber (p : Pfx) (s : State) : Int := match p.offset with
  | .none => 0
  | .pc => s.pc.toNat
  | .sp => (if p.um then s.spu else if s.isHyp then s.sph else s.spu).toNat
  | .b => s.b.toNat

/-- A sign extension stands for the two's complement value, also where it is truncated (R6, R230). -/
theorem denotes_signExt {n : Nat} (hn : n ≤ 64) (s : State) (v : Word) :
    s.Denotes (signExt n s.w v) (signed n (v.toNat % 2 ^ n)) := by
  have hwhole : signExt n s.w v = low s.w (signExt n 64 (low n v)) := by
    simp [signExt, low, BitVec.setWidth_setWidth_of_le _ hn]
  rw [hwhole, ← low_toNat]
  exact (State.denotes_of_emod (signExt_emod hn (Nat.le_refl 64) (low_lt n v))).low

theorem denotes_widenAddress {n : Nat} (hn : n ≤ 64) (s : State) (v : Word) :
    s.Denotes (widenAddress s n v) (s.widenedNumber n (v.toNat % 2 ^ n)) := by
  rw [widenAddress, State.widenedNumber]
  cases s.cfg.shortAddr with
  | zero => exact low_toNat n v ▸ (s.denotes_toNat (low n v)).low
  | sign => exact denotes_signExt hn s v

/-- A widened address has `W` bits. -/
theorem low_widenAddress (s : State) (n : Nat) (v : Word) : low s.w (widenAddress s n v) = widenAddress s n v := by
  rw [widenAddress]
  cases s.cfg.shortAddr with
  | zero => exact low_low ..
  | sign => exact low_signExt ..

theorem denotes_operandAddress (f : Format) (p : Pfx) (op : Word) (s : State) :
    s.Denotes (operandAddress f p op s)
      (s.widenedNumber (8 * f.operandBytes p) (op.toNat % 2 ^ (8 * f.operandBytes p))) :=
  denotes_widenAddress (Nat.mul_le_mul_left 8 (f.operandBytes_le p)) s op

theorem denotes_relativeTarget (f : Format) (p : Pfx) (op : Word) (s : State) :
    s.Denotes (relativeTarget f p op s)
      (s.pc.toNat + signed (8 * f.operandBytes p) (op.toNat % 2 ^ (8 * f.operandBytes p))) :=
  ((s.denotes_toNat s.pc).add (denotes_signExt (Nat.mul_le_mul_left 8 (f.operandBytes_le p)) s op)).low

/-- The stack pointer of the data environment is the one that UM and the mode select (R26, R232). -/
theorem sp_denv (p : Pfx) (s : State) :
    s.sp (s.denv p) = if p.um then s.spu else if s.isHyp then s.sph else s.spu := by
  cases hum : p.um <;> cases hhyp : s.isHyp <;> simp [State.denv, State.cur, State.sp, hum, hhyp]

theorem denotes_offsetValue (p : Pfx) (s : State) : s.Denotes (offsetValue p s) (offsetNumber p s) := by
  have hoff : ((offsetValue p s).toNat : Int) = offsetNumber p s := by
    rw [offsetValue, offsetNumber, ← sp_denv]
    cases p.offset <;> rfl
  exact hoff ▸ s.denotes_toNat _

/-! ### The effective address, mode by mode -/

section Modes

variable {f : Format} (p : Pfx) (op : Word) (s : State)

theorem effectiveAddress_plain (hf : f ∈ [Format.zp, .abs]) :
    effectiveAddress f p op s = .ok (low s.w (operandAddress f p op s + offsetValue p s)) := by
  fin_cases hf <;> rfl

theorem effectiveAddress_indexedX (hf : f ∈ [Format.zpX, .absX]) :
    effectiveAddress f p op s = .ok (low s.w (operandAddress f p op s + s.x + offsetValue p s)) := by
  fin_cases hf <;> rfl

theorem effectiveAddress_indexedY (hf : f ∈ [Format.zpY, .absY]) :
    effectiveAddress f p op s = .ok (low s.w (operandAddress f p op s + s.y + offsetValue p s)) := by
  fin_cases hf <;> rfl

theorem effectiveAddress_relative (hf : f ∈ [Format.relAm, .relWideAm]) :
    effectiveAddress f p op s = .ok (low s.w (relativeTarget f p op s + offsetValue p s)) := by
  fin_cases hf <;> rfl

theorem effectiveAddress_indirect (hf : f ∈ [Format.indZp, .indAbs, .qindZp, .qindAbs]) :
    effectiveAddress f p op s = readPointer (s.denv p) f p (operandAddress f p op s + offsetValue p s) s := by
  fin_cases hf <;> rfl

theorem effectiveAddress_preindexed (hf : f ∈ [Format.indZpX, .indAbsX, .qindZpX, .qindAbsX]) :
    effectiveAddress f p op s = readPointer (s.denv p) f p (operandAddress f p op s + offsetValue p s + s.x) s := by
  fin_cases hf <;> rfl

theorem effectiveAddress_postindexed {v : Word} (hf : f ∈ [Format.indZpY, .indAbsY, .qindZpY, .qindAbsY])
    (hv : readPointer (s.denv p) f p (operandAddress f p op s + offsetValue p s) s = .ok v) :
    effectiveAddress f p op s = .ok (low s.w (v + s.y)) := by
  fin_cases hf <;> simp only [effectiveAddress, hv]

/-- A memory operand is read in the data environment at the effective address (R204, R232). -/
theorem sourceOperand_of_effectiveAddress {ea : Word} (hf : f ≠ .imm) (hea : effectiveAddress f p op s = .ok ea) :
    sourceOperand f p op s = memRead s (s.denv p) ea p.size.bytes := by
  cases f
  case imm => exact absurd rfl hf
  all_goals simp only [sourceOperand, hea]

end Modes

/-! ### Pointers -/

theorem pointerBytes_eq (f : Format) (p : Pfx) : pointerBytes f p =
    if f ∈ [Format.qindZp, .qindZpX, .qindZpY, .qindAbs, .qindAbsX, .qindAbsY] then 8 else if p.am then 4 else 2 := by
  cases f <;> rfl

theorem pointerBytes_le (f : Format) (p : Pfx) : pointerBytes f p ≤ 8 := by
  rw [pointerBytes_eq]
  split_ifs <;> decide

section Pointer

variable {f : Format} {p : Pfx} {s : State} {env : Env} {ia v : Word} {at_ : Int} {k : Nat} (hk : k = pointerBytes f p)
  (hv : memRead s env (wrap s.w at_) k = .ok v)
include hk hv

/-- The widened pointer stands for the number its bytes make. -/
theorem denotes_pointer : s.Denotes (widenAddress s (8 * k) v) (s.widenedNumber (8 * k) v.toNat) := by
  have h := denotes_widenAddress (Nat.mul_le_mul_left 8 (hk ▸ pointerBytes_le f p)) s v
  rwa [Nat.mod_eq_of_lt (memRead_lt hv)] at h

/-- A pointer that can be read where its address stands is widened (R212 to R226). -/
theorem readPointer_of_memRead (hat : s.Denotes ia at_) : readPointer env f p ia s = .ok (widenAddress s (8 * k) v) := by
  simp only [readPointer, hat.memRead_eq, ← hk, hv]

theorem readPointer_eq_wrap (hat : s.Denotes ia at_) : readPointer env f p ia s =
    .ok (wrap s.w (s.widenedNumber (8 * k) v.toNat)) := by
  rw [readPointer_of_memRead hk hv hat, ← (denotes_pointer hk hv).low_eq, low_widenAddress]

end Pointer

/-! ### The obligations -/

/-- Settles O15: the address of each mode is a truncated sum, and its parts stand for the numbers of the statement. -/
theorem directEffectiveAddresses : Obligations.DirectEffectiveAddresses := by
  intro f p op s _ bits off a
  have hoff : s.Denotes (offsetValue p s) off := denotes_offsetValue p s
  have hrel : s.Denotes (relativeTarget f p op s) (s.pc.toNat + signed bits (op.toNat % 2 ^ bits)) :=
    denotes_relativeTarget f p op s
  have ha : s.Denotes (operandAddress f p op s) a := by
    have hnumber : a = s.widenedNumber bits (op.toNat % 2 ^ bits) := by
      cases hshort : s.cfg.shortAddr <;> simp [a, hshort, State.widenedNumber]
    exact hnumber ▸ denotes_operandAddress f p op s
  refine ⟨fun hf => ?plain, fun hf => ?indexedX, fun hf => ?indexedY, fun hf => ?quickZp, fun hf => ?inE,
    fun hf => ?relative⟩
  case plain => rw [effectiveAddress_plain p op s hf, (ha.add hoff).low_eq]
  case indexedX => rw [effectiveAddress_indexedX p op s hf, ((ha.add (s.denotes_toNat s.x)).add hoff).low_eq]
  case indexedY => rw [effectiveAddress_indexedY p op s hf, ((ha.add (s.denotes_toNat s.y)).add hoff).low_eq]
  case quickZp =>
    subst hf
    exact congrArg Except.ok ha.low_eq
  case inE => fin_cases hf <;> rfl
  case relative => rw [effectiveAddress_relative p op s hf, (hrel.add hoff).low_eq]

/-- Settles O16: the pointer is read where operand, offset and `X` stand, and stands for its widened bytes; the source value
is then the read at the address found. -/
theorem indirectEffectiveAddressesAndOperands : Obligations.IndirectEffectiveAddressesAndOperands := by
  intro f p op s v _ bits off widened k at_
  have hk : k = pointerBytes f p := (pointerBytes_eq f p).symm
  have hsum : s.Denotes (operandAddress f p op s + offsetValue p s) (widened bits (op.toNat % 2 ^ bits) + off + 0) := by
    rw [Int.add_zero]
    exact (denotes_operandAddress f p op s).add (denotes_offsetValue p s)
  have hsumX : s.Denotes (operandAddress f p op s + offsetValue p s + s.x)
      (widened bits (op.toNat % 2 ^ bits) + off + s.x.toNat) :=
    ((denotes_operandAddress f p op s).add (denotes_offsetValue p s)).add (s.denotes_toNat s.x)
  refine ⟨fun hf hv => ?indirect, fun hf hv => ?preindexed, fun hf hv => ?postindexed, ?immediate, ?memory⟩
  case indirect => exact (effectiveAddress_indirect p op s hf).trans (readPointer_eq_wrap hk hv hsum)
  case preindexed => exact (effectiveAddress_preindexed p op s hf).trans (readPointer_eq_wrap hk hv hsumX)
  case postindexed =>
    have hpointer := readPointer_of_memRead hk hv hsum
    rw [effectiveAddress_postindexed p op s hf hpointer]
    exact congrArg Except.ok ((denotes_pointer hk hv).add (s.denotes_toNat s.y)).low_eq
  case immediate =>
    rintro rfl
    rw [← low_toNat, word_toNat_eq]
    rfl
  case memory => exact fun hf ea hea => sourceOperand_of_effectiveAddress p op s hf hea

end Sys2Proof.Machine
end

section
/-! Loads (R252, R257, R259, R300 to R303, R501 to R503, R575, R576). -/

namespace Sys2Proof.Machine

open Sys2Proof.Claims

/-! ### Completing what an instruction means -/

section Means

variable {i : Instr} {p : Pfx} {s t : State}

theorem Means.exec_eq_next {g : Format → Word → State → Res State} (h : Means i p g) (hp : permitted i s = true)
    (hbody : g i.view.row.format i.view.op (past i s) = .ok t) : exec i s = .next t :=
  Machine.exec_eq_next (h.body s) hp hbody

/-- What passes the width check completes as the rest of its meaning does (R250). -/
theorem Means.exec_eq_next_of_ready {g : Format → Word → State → Res State}
    (h : Means i p fun f op => withWidth p (g f op)) (hr : ready i s = true)
    (hbody : g i.view.row.format i.view.op (past i s) = .ok t) : exec i s = .next t := by
  have hwidth := withWidth_of_ready hr (g i.view.row.format i.view.op)
  rw [h.pfx] at hwidth
  exact h.exec_eq_next (permitted_of_ready hr) (hwidth.trans hbody)

theorem Means.exec_eq_refused_of_ready {g : Format → Word → State → Res State} {x : Refusal}
    (h : Means i p fun f op => withWidth p (g f op)) (hr : ready i s = true)
    (hbody : g i.view.row.format i.view.op (past i s) = refuse (past i s) x) : exec i s = .refused x := by
  have hwidth := withWidth_of_ready hr (g i.view.row.format i.view.op)
  rw [h.pfx] at hwidth
  exact exec_eq_refused (h.body s) (permitted_of_ready hr) (hwidth.trans hbody)

theorem Means.opBits_le {g : Format → Word → State → Res State} (h : Means i p g) (hr : ready i s = true) :
    opBits p ≤ s.w := h.pfx ▸ opBits_le_of_ready hr

end Means

/-! ### Loads -/

/-- A source value is as wide as the operation (R204, R251). -/
theorem sourceOperand_lt {f : Format} {p : Pfx} {op m : Word} {s : State} (h : sourceOperand f p op s = .ok m) :
    m.toNat < 2 ^ opBits p := by
  unfold sourceOperand at h
  split at h
  · cases h
    exact low_lt _ _
  · split at h
    · cases h
    · exact memRead_lt h

theorem loadInto_eq_word {n w : Nat} (hn : n ≤ w) (hw : w ≤ 64) (e : Extension) (old : Word) {v : Word}
    (hv : v.toNat < 2 ^ n) : loadInto n w e old v = word (loaded n w e old.toNat v.toNat) := by
  rw [← loadInto_toNat hn hw e old hv, word_toNat_eq]

/-- The commit of a load or a pull: the register takes the value under LEeff, `N` and `Z` are those of the value (R300). -/
theorem unlessNf_setNZ_setReg_loadInto {p : Pfx} {m old : Word} {s : State} {w : Nat} (hn : opBits p ≤ w) (hw : w ≤ 64)
    (hm : m.toNat < 2 ^ opBits p) (r : Reg) :
    unlessNf p (setNZ (opBits p) m) (s.setReg r (loadInto (opBits p) w (p.extension .zero) old m)) =
      { s.setReg r (word (loaded (opBits p) w (p.extension .zero) old.toNat m.toNat)) with
        sr := flagsNZ p.nf (opBits p) m.toNat s.sr } := by
  rw [unlessNf_setNZ (opBits_pos p) hm, loadInto_eq_word hn hw _ _ hm, State.setReg_sr]

theorem loadBody_eq {r : Reg} {f : Format} {p : Pfx} {op m : Word} {s : State} (hn : opBits p ≤ s.w)
    (hm : sourceOperand f p op s = .ok m) :
    loadBody r f p op s = .ok
      { s.setReg r (word (loaded (opBits p) s.w (p.extension .zero) (s.reg r).toNat m.toNat)) with
        sr := flagsNZ p.nf (opBits p) m.toNat s.sr } := by
  rw [loadBody, hm]
  exact congrArg _ (unlessNf_setNZ_setReg_loadInto hn s.w_le (sourceOperand_lt hm) r)

/-- Settles O17: every form of the list is one load of its operand, whatever its mode. -/
theorem loadsWriteTheExtendedOperand : Obligations.LoadsWriteTheExtendedOperand := by
  intro r mk hmk p op s m hr hm
  have h := loads_means p op _ hmk
  have hreg : (past (mk p op) s).reg r = s.reg r := State.setPc_reg ..
  rw [← hreg]
  exact h.exec_eq_next_of_ready hr (loadBody_eq (h.opBits_le hr) (h.operand_eq s ▸ hm))

end Sys2Proof.Machine
end

section
/-! Pulls and pushes (R270, R315 to R320, R578 to R582). -/

namespace Sys2Proof.Machine

open Sys2Proof.Claims

theorem size_bytes_pos (p : Pfx) : 0 < p.size.bytes := by cases p.size <;> decide

theorem State.w_pos (s : State) : 0 < s.w := Nat.lt_of_lt_of_le (by decide) s.w_ge

theorem State.wBytes_pos (s : State) : 0 < s.wBytes := by
  have hw := s.w_pos
  rw [s.w_eq] at hw
  omega

/-! ### Pulls -/

section Pulls

variable {p : Pfx} {s : State} {m : Word}

/-- A pull of `nb` bytes extends them as a load does (R318). -/
theorem pullBody_eq (r : Reg) (hn : opBits p ≤ s.w)
    (hm : memRead s (s.denv p) (s.sp (s.denv p) + 1) p.size.bytes = .ok m) :
    pullBody r p s = .ok
      { (s.setSp (s.denv p) (s.sp (s.denv p) + word p.size.bytes)).setReg r
          (word (loaded (opBits p) s.w (p.extension .zero) (s.reg r).toNat m.toNat)) with
        sr := flagsNZ p.nf (opBits p) m.toNat s.sr } := by
  rw [pullBody, pull_of_memRead (size_bytes_pos p) hm]
  refine congrArg _ ((unlessNf_setNZ_setReg_loadInto hn s.w_le (memRead_lt hm) r).trans ?_)
  rw [State.setSp_sr]

/-- A pull of a whole register takes the value as it is (R579). -/
theorem pullWhole_eq (r : Reg) (hm : memRead s (s.denv p) (s.sp (s.denv p) + 1) s.wBytes = .ok m) :
    pullWhole r p s = .ok
      { (s.setSp (s.denv p) (s.sp (s.denv p) + word s.wBytes)).setReg r (word m.toNat) with
        sr := flagsNZ p.nf (8 * s.wBytes) m.toNat s.sr } := by
  have hlt := memRead_lt hm
  rw [← s.w_eq] at hlt
  rw [pullWhole, pull_of_memRead s.wBytes_pos hm, ← s.w_eq, word_toNat_eq]
  refine congrArg _ ((unlessNf_setNZ s.w_pos hlt ..).trans ?_)
  rw [State.setReg_sr, State.setSp_sr]

end Pulls

/-- Settles O23: what a pull gives is the value read above the stack pointer; the two widths differ in how it is kept. -/
theorem pullsReadUpwards : Obligations.PullsReadUpwards := by
  intro whole r mk hmk p op s m k hr hm
  have h := pulls_means p op _ hmk
  have hreg : (past (mk p op) s).reg r = s.reg r := State.setPc_reg ..
  have hm' := (memRead_past (mk p op) s (s.denv p) _ k).trans hm
  cases whole with
  | true => exact h.exec_eq_next (permitted_of_ready hr) (pullWhole_eq r hm')
  | false =>
    have h' : Means (mk p op) p fun _ _ => withWidth p (pullBody r p) := h
    have hbody := pullBody_eq (s := past (mk p op) s) r (h'.opBits_le hr) hm'
    rw [hreg] at hbody
    exact h'.exec_eq_next_of_ready hr hbody

/-! ### Pushes -/

/-- A write none of whose cells aborts stores them where they land, one after another (R107, R123). -/
theorem writeCells_eq_landed {s : State} {env : Env} : ∀ {cells : List (Word × Byte)} (m : Memory),
    writable s env cells = true →
    writeCells s env m cells = .ok ((landed s env cells).foldl (fun m c => m.store c.1 c.2) m)
  | [], _, _ => rfl
  | c :: cells, m, h => by
    rw [writable_cons] at h
    obtain ⟨⟨o, ho⟩, hrest⟩ := h
    rw [writeCells, ho]
    cases o with
    | none => rw [landed_cons_dropped ho]; exact writeCells_eq_landed m hrest
    | some q => rw [landed_cons_stored ho]; exact writeCells_eq_landed (m.store q c.2) hrest

/-- Writing the stack pointer's own value changes nothing. -/
theorem setSp_eq_self {s : State} {env : Env} {v : Word} (h : s.sp env = low s.w v) : s.setSp env v = s := by
  cases env <;> simp only [State.setSp, ← h] <;> rfl

theorem setSp_set_mem (s : State) (env : Env) (v : Word) (m : Memory) :
    State.setSp { s with mem := m } env v = { s.setSp env v with mem := m } := by cases env <;> rfl

/-- A push of bytes writes its cells, from the stack pointer downwards, and lowers the pointer by as many (R270). -/
theorem pushBytes_of_writeCells_ok {s : State} {env : Env} {m : Memory} : ∀ (bs : List Byte) {t : State} {sp : Word},
    StackMoved env s t → t.sp env = low s.w sp → writeCells s env t.mem (downward sp bs) = .ok m →
    pushBytes t env bs = .ok { t.setSp env (sp - word bs.length) with mem := m }
  | [], t, sp, ht, hsp, hcells => by
    cases hcells
    have hself : t.setSp env (sp - word 0) = t := setSp_eq_self (by rw [ht.w_eq, hsp]; simp [word])
    rw [pushBytes, List.length_nil, hself]
  | b :: bs, t, sp, ht, hsp, hcells => by
    have hlow : low s.w (t.sp env) = low s.w sp := by rw [hsp, low_low]
    have hstep : ∀ u : State, StackMoved env s u → u.sp env = t.sp env →
        writeCells s env u.mem (downward (sp - 1) bs) = .ok m →
        pushBytes (u.setSp env (u.sp env - 1)) env bs = .ok { u.setSp env (sp - word (bs.length + 1)) with mem := m } :=
      fun u hu husp hrest => by
        have hpush := pushBytes_of_writeCells_ok bs (t := u.setSp env (u.sp env - 1)) (sp := sp - 1)
          (hu.trans (.set env u u.mem _))
          (by rw [State.sp_setSp_same, hu.w_eq, husp, low_sub_one_congr s.w_le hlow]) (by rw [State.setSp_mem]; exact hrest)
        rwa [setSp_setSp, ← sub_add_eq_sub_sub, ← word_succ] at hpush
    rw [downward_cons, writeCells, ← hlow] at hcells
    rw [pushBytes, writeByte, ht.locate_eq, ht.w_eq, List.length_cons]
    cases hl : locate s env (low s.w (t.sp env)) .write with
    | error x => rw [hl] at hcells; cases hcells
    | ok o =>
      rw [hl] at hcells
      cases o with
      | none => exact hstep t ht rfl hcells
      | some q =>
        have hpush := hstep { t with mem := t.mem.store q b } (ht.set_mem (t.mem.store q b)) (by cases env <;> rfl) hcells
        rw [setSp_set_mem t env (sp - word (bs.length + 1))] at hpush
        exact hpush

/-- A complete push after the fetch, and what it leaves in memory (R270). -/
theorem push_past_of_writable {i : Instr} {s : State} {env : Env} {k : Nat} {v : Word} (hm : s.mem.wf = true)
    (hsp : (s.sp env).toNat < 2 ^ s.w)
    (h : writable s env (downward (s.sp env) (bigEndian k v.toNat)) = true) :
    ∃ m, push (past i s) env k v = .ok { (past i s).setSp env (s.sp env - word k) with mem := m } ∧
      Stores s env (downward (s.sp env) (bigEndian k v.toNat)) m := by
  refine ⟨_, ?_, (stores_iff hm).2 rfl⟩
  have hlength : (bigEndian k v.toNat).length = k := by simp [bigEndian, littleEndian]
  have hcells := (writeCells_past i s env _ _).trans (writeCells_eq_landed s.mem h)
  have hpush := pushBytes_of_writeCells_ok (s := past i s) _ (.refl env (past i s)) (low_eq_self hsp).symm hcells
  rw [push, toBytes_eq]
  rwa [hlength] at hpush

theorem GoodState.sp_lt {w : Nat} {s : State} (h : GoodState w s) (env : Env) : (s.sp env).toNat < 2 ^ w :=
  h.wide (by cases env <;> simp [State.sp, State.wideRegisters])

/-- PRB goes on from the push with the transfer of `A` (R582). -/
theorem pushReplaceBase_eq {p : Pfx} {t u : State} (hpush : push t (t.denv p) t.wBytes t.b = .ok u) (hw : u.w = t.w)
    (ha : t.a.toNat < 2 ^ t.w) :
    pushReplaceBase p t = .ok { u with b := t.a, sr := flagsNZ p.nf t.w t.a.toNat u.sr } := by
  rw [pushReplaceBase, hpush]
  refine congrArg _ ((unlessNf_setNZ t.w_pos ha p _).trans ?_)
  rw [State.setReg, hw, low_eq_self ha]

section Clauses

variable {p : Pfx} {op : Word} {s : State}

theorem pushes_write (hgood : GoodState s.w s) {whole : Bool} {r : Reg} {mk : Form} (hmk : (whole, r, mk) ∈ pushes)
    {k : Nat} (hk : k = if whole then s.wBytes else p.size.bytes) (hr : ready (mk p op) s = true)
    (hw : writable s (s.denv p) (downward (s.sp (s.denv p)) (bigEndian k (s.reg r).toNat)) = true) :
    ∃ m, exec (mk p op) s =
        .next { (past (mk p op) s).setSp (s.denv p) (s.sp (s.denv p) - word k) with mem := m } ∧
      Stores s (s.denv p) (downward (s.sp (s.denv p)) (bigEndian k (s.reg r).toNat)) m := by
  have h := pushes_means p op _ hmk
  have hreg : (past (mk p op) s).reg r = s.reg r := State.setPc_reg ..
  obtain ⟨m, hpush, hstores⟩ := push_past_of_writable (i := mk p op) hgood.memory.canonical (hgood.sp_lt _) hw
  rw [← hreg] at hpush
  refine ⟨m, ?_, hstores⟩
  subst hk
  cases whole with
  | true => exact h.exec_eq_next (permitted_of_ready hr) hpush
  | false =>
    have h' : Means (mk p op) p fun _ _ => withWidth p fun t => pushBody p (t.reg r) t := h
    exact h'.exec_eq_next_of_ready (g := fun _ _ t => pushBody p (t.reg r) t) hr hpush

/-- PRB is PHB and a transfer of `A` into `B` (R582). -/
theorem prb_writes (hgood : GoodState s.w s) (hp : permitted (.prb p) s = true)
    (hw : writable s (s.denv p) (downward (s.sp (s.denv p)) (bigEndian s.wBytes s.b.toNat)) = true) :
    ∃ m, exec (.prb p) s = .next
        { (past (.prb p) s).setSp (s.denv p) (s.sp (s.denv p) - word s.wBytes) with
          mem := m, b := s.a, sr := flagsNZ p.nf s.w s.a.toNat s.sr } ∧
      Stores s (s.denv p) (downward (s.sp (s.denv p)) (bigEndian s.wBytes s.b.toNat)) m := by
  have ha : (past (.prb p) s).a.toNat < 2 ^ (past (.prb p) s).w := hgood.wide (by simp [past, State.wideRegisters])
  have hi : HasBody (.prb p) s (pushReplaceBase p) := rfl
  obtain ⟨m, hpush, hstores⟩ := push_past_of_writable (i := .prb p) hgood.memory.canonical (hgood.sp_lt _) hw
  refine ⟨m, exec_eq_next hi hp ?_, hstores⟩
  have hbody := pushReplaceBase_eq (t := past (.prb p) s) hpush (State.setSp_w ..) ha
  rw [State.setSp_sr] at hbody
  exact hbody

end Clauses

/-- Settles O22: a push writes its cells from the stack pointer downwards; PRB goes on with the transfer of `A`. -/
theorem pushesWriteDownwards : Obligations.PushesWriteDownwards :=
  ⟨fun _ _ _ hmk _ _ _ hwf => pushes_write (.of_wellFormed hwf) hmk rfl,
    fun _ _ hwf => prb_writes (.of_wellFormed hwf)⟩

end Sys2Proof.Machine
end

section
/-! ADC and SBC outside decimal mode (R258, R350, R354, R355, R512, R513). -/

namespace Sys2Proof.Machine

open Sys2Proof.Claims

/-! ### Carry and overflow as arithmetic -/

theorem topBit_eq_mod {k : Nat} (hk : 0 < k) (v : Word) : topBit k v = decide (2 ^ (k - 1) ≤ v.toNat % 2 ^ k) := by
  have hlow : topBit k v = topBit k (low k v) := by simp [topBit, hk]
  rw [hlow, topBit_eq hk (low_lt k v), low_toNat]

/-- Two summands of one sign whose sum has the other are those whose exact sum does not fit (R258). -/
theorem signs_differ_iff_overflows {k : Nat} (hk : 0 < k) {a b : Nat} (ha : a < 2 ^ k) (hb : b < 2 ^ k) (c : Bool) :
    (decide (2 ^ (k - 1) ≤ a) == decide (2 ^ (k - 1) ≤ b) &&
      decide (2 ^ (k - 1) ≤ (a + b + c.toNat) % 2 ^ k) != decide (2 ^ (k - 1) ≤ a)) =
    overflows k (signed k a + signed k b + c.toNat) := by
  have hhalf : 2 * 2 ^ (k - 1) = 2 ^ k := mul_pow_sub_one hk.ne' 2
  have hc : c.toNat ≤ 1 := Bool.toNat_le c
  have hcast : (2 : Int) ^ (k - 1) = ((2 ^ (k - 1) : Nat) : Int) := by push_cast; rfl
  have hcast' : (2 : Int) ^ k = ((2 * 2 ^ (k - 1) : Nat) : Int) := by rw [hhalf]; push_cast; rfl
  have hmod : (a + b + c.toNat) % 2 ^ k = if 2 ^ k ≤ a + b + c.toNat then a + b + c.toNat - 2 ^ k else a + b + c.toNat := by
    split
    · rw [Nat.mod_eq_sub_mod ‹_›, Nat.mod_eq_of_lt (by omega)]
    · exact Nat.mod_eq_of_lt (by omega)
  rw [hmod, overflows, signed, signed, hcast, hcast', ← hhalf]
  rw [← hhalf] at ha hb
  generalize 2 ^ (k - 1) = h at *
  rw [Bool.eq_iff_iff]
  simp only [Bool.and_eq_true, beq_iff_eq, bne_iff_ne, ne_eq, decide_eq_decide, decide_eq_true_eq]
  split_ifs <;> omega

/-- A sum at width `k`: value, carry out, and an overflow that says that the exact sum does not fit (R258). -/
theorem addC_eq {k : Nat} (hk : 0 < k) (hk64 : k ≤ 64) {a b : Word} {l r : Nat} (hl : a.toNat % 2 ^ k = l)
    (hr : b.toNat % 2 ^ k = r) (c : Bool) :
    addC k a b c = { r := word ((l + r + c.toNat) % 2 ^ k), c := decide (2 ^ k ≤ l + r + c.toNat),
                     v := overflows k (signed k l + signed k r + c.toNat) } := by
  have hlt : (l + r + c.toNat) % 2 ^ k < 2 ^ k := Nat.mod_lt _ (Nat.two_pow_pos k)
  have hsum : (word ((l + r + c.toNat) % 2 ^ k)).toNat % 2 ^ k = (l + r + c.toNat) % 2 ^ k := by
    rw [toNat_word_of_lt hk64 hlt, Nat.mod_mod]
  subst hl hr
  simp only [addC, low_toNat, low_ofNat k _ hk64, topBit_eq_mod hk, hsum]
  rw [signs_differ_iff_overflows hk (Nat.mod_lt _ (Nat.two_pow_pos k)) (Nat.mod_lt _ (Nat.two_pow_pos k))]

/-- The complement at width `k`, as a number. -/
theorem not_toNat_mod {k : Nat} (hk : k ≤ 64) (v : Word) : (~~~v).toNat % 2 ^ k = 2 ^ k - 1 - v.toNat % 2 ^ k := by
  have hnot : (~~~v).setWidth k = ~~~(v.setWidth k) := BitVec.setWidth_not hk
  rw [← BitVec.toNat_setWidth, hnot, BitVec.toNat_not, BitVec.toNat_setWidth]

/-- The complement stands for `-1 - v`. -/
theorem signed_complement {k v : Nat} (hk : 0 < k) (hv : v < 2 ^ k) : signed k (2 ^ k - 1 - v) = -1 - signed k v := by
  have hhalf : 2 * 2 ^ (k - 1) = 2 ^ k := mul_pow_sub_one hk.ne' 2
  have hcast : (2 : Int) ^ k = ((2 * 2 ^ (k - 1) : Nat) : Int) := by rw [hhalf]; push_cast; rfl
  rw [signed, signed, hcast]
  split_ifs <;> omega

/-- A difference at width `k`: a carry of 1 means no borrow (R258). -/
theorem subC_eq {k : Nat} (hk : 0 < k) (hk64 : k ≤ 64) {a b : Word} {l r : Nat} (hl : a.toNat % 2 ^ k = l)
    (hr : b.toNat % 2 ^ k = r) (c : Bool) :
    subC k a b c = { r := word ((l + 2 ^ k - r - (1 - c.toNat)) % 2 ^ k), c := decide (r + (1 - c.toNat) ≤ l),
                     v := overflows k (signed k l - signed k r - (1 - c.toNat : Nat)) } := by
  have hlt : r < 2 ^ k := hr ▸ Nat.mod_lt _ (Nat.two_pow_pos k)
  have hc : c.toNat ≤ 1 := Bool.toNat_le c
  have htotal : l + (2 ^ k - 1 - r) + c.toNat = l + 2 ^ k - r - (1 - c.toNat) := by omega
  have hcarry : (2 ^ k ≤ l + (2 ^ k - 1 - r) + c.toNat) ↔ r + (1 - c.toNat) ≤ l := by omega
  have hexact : signed k l + signed k (2 ^ k - 1 - r) + c.toNat = signed k l - signed k r - (1 - c.toNat : Nat) := by
    rw [signed_complement hk hlt]
    omega
  rw [subC, addC_eq hk hk64 hl ((not_toNat_mod hk64 b).trans (by rw [hr])), hexact, decide_eq_decide.2 hcarry, htotal]

/-! ### The accumulator and its flags -/

/-- What the body of ADC and SBC commits, at a width `k` no wider than `W` (R350, R354, R355). -/
theorem unlessNf_setNVZC_aluWrite {k v : Nat} {c : Bool} {exact : Int} {p : Pfx} {s : State} (hk : 0 < k) (hkw : k ≤ s.w)
    (ha : s.a.toNat < 2 ^ s.w) (hv : v < 2 ^ k) :
    unlessNf p (setNVZC k { r := word v, c := c, v := overflows k exact }) (aluWrite k (word v) s) =
      { s with a := word (replaced k s.a.toNat v), sr := flagsNVZC p.nf k v c exact s.sr } := by
  have hnat : (word v).toNat = v := toNat_word_of_lt (Nat.le_trans hkw s.w_le) hv
  have hlt : (word v).toNat < 2 ^ k := hnat.symm ▸ hv
  have hwrite : aluWrite k (word v) s = { s with a := word (replaced k s.a.toNat v) } := by
    have hlow := low_loadInto hkw s.w_le .none ha hlt
    rw [hnat] at hlow
    exact congrArg (fun a => { s with a := a }) hlow
  rw [hwrite, unlessNf, setNVZC, setNZ_eq hk hlt, hnat]
  cases p.nf <;> rfl

/-- The operands of a computing instruction as numbers (R350, R252). -/
structure AluNumbers (q : AluArgs) (k l r : Nat) : Prop where
  /-- the working width -/
  width : q.k = k
  /-- the register at that width -/
  left : q.l.toNat % 2 ^ k = l
  /-- the operand at that width -/
  right : q.m.toNat % 2 ^ k = r

theorem workWidth_pos {n w : Nat} (hn : 0 < n) (hw : 0 < w) (e : Extension) : 0 < workWidth e n w := by
  cases e <;> assumption

theorem workWidth_le {n w : Nat} (hn : n ≤ w) (e : Extension) : workWidth e n w ≤ w := by
  cases e with
  | none => exact hn
  | sign | zero | ones => exact Nat.le_refl w

theorem extended_lt_workWidth {n w v : Nat} (hn : n ≤ w) (e : Extension) (hv : v < 2 ^ n) :
    extended n w e v < 2 ^ workWidth e n w := by
  cases e with
  | none => exact hv
  | sign | zero | ones => exact extended_lt hn _ hv

/-- The left operand is the register, the right one the value under LEeff, both at the working width (R350). -/
theorem aluArgs_numbers {p : Pfx} {s : State} (a : Word) {m : Word} (hn : opBits p ≤ s.w) (hm : m.toNat < 2 ^ opBits p) :
    AluNumbers (aluArgs a p m s) (workWidth (p.extension .none) (opBits p) s.w)
      (a.toNat % 2 ^ workWidth (p.extension .none) (opBits p) s.w)
      (extended (opBits p) s.w (p.extension .none) m.toNat) := by
  have hlt := extended_lt_workWidth hn (p.extension .none) hm
  have hext := extend_toNat hn s.w_le (p.extension .none) hm
  unfold aluArgs
  cases he : p.extension .none with
  | none => exact ⟨rfl, by rw [low_toNat]; exact Nat.mod_mod .., Nat.mod_eq_of_lt hm⟩
  | sign | zero | ones =>
    rw [he] at hlt hext
    exact ⟨rfl, rfl, (congrArg (· % _) hext).trans (Nat.mod_eq_of_lt hlt)⟩

/-- A sum or a difference of the operands, known at the working width, is what the body commits (R350, R354, R355). -/
theorem addBody_eq {sub : Bool} {f : Format} {p : Pfx} {op m : Word} {s : State} {k l r v : Nat} {c : Bool} {exact : Int}
    (hd : s.sr.d = false) (hn : opBits p ≤ s.w) (ha : s.a.toNat < 2 ^ s.w) (hm : sourceOperand f p op s = .ok m)
    (hk : k = workWidth (p.extension .none) (opBits p) s.w) (hl : l = s.a.toNat % 2 ^ k)
    (hr : r = extended (opBits p) s.w (p.extension .none) m.toNat) (hv : v < 2 ^ k)
    (hsum : ∀ x y : Word, x.toNat % 2 ^ k = l → y.toNat % 2 ^ k = r →
      (if sub then subC k x y s.sr.c else addC k x y s.sr.c) = { r := word v, c := c, v := overflows k exact }) :
    addBody sub f p op s = .ok
      { s with a := word (replaced k s.a.toNat v), sr := flagsNVZC p.nf k v c exact s.sr } := by
  have hq := aluArgs_numbers (s := s) s.a hn (sourceOperand_lt hm)
  rw [← hk, ← hl, ← hr] at hq
  have hpos : 0 < k := hk ▸ workWidth_pos (opBits_pos p) s.w_pos _
  have hkw : k ≤ s.w := hk ▸ workWidth_le hn _
  rw [addBody, if_neg (by simp [hd]), hm]
  dsimp only
  rw [hq.width, hsum _ _ hq.left hq.right]
  exact congrArg _ (unlessNf_setNVZC_aluWrite hpos hkw ha hv)

/-- Settles O26: every form of the two lists is one sum or one difference of the accumulator and its operand. -/
theorem addAndSubtractWithCarry : Obligations.AddAndSubtractWithCarry := by
  intro mk p op s m hwf hd hr hm k l r
  have ha : s.a.toNat < 2 ^ s.w := (GoodState.of_wellFormed hwf).wide (by simp [State.wideRegisters])
  have hpos : 0 < k := workWidth_pos (opBits_pos p) s.w_pos _
  have hlt : ∀ t, t % 2 ^ k < 2 ^ k := fun t => Nat.mod_lt t (Nat.two_pow_pos k)
  refine ⟨fun hmk => ?_, fun hmk => ?_⟩
  · have h := addForms_means p op mk hmk
    have hn := h.opBits_le hr
    have hk64 : k ≤ 64 := Nat.le_trans (workWidth_le hn _) s.w_le
    exact h.exec_eq_next_of_ready hr (addBody_eq hd hn ha (h.operand_eq s ▸ hm) rfl rfl rfl (hlt _)
      fun x y hx hy => addC_eq hpos hk64 hx hy s.sr.c)
  · have h := subtractForms_means p op mk hmk
    have hn := h.opBits_le hr
    have hk64 : k ≤ 64 := Nat.le_trans (workWidth_le hn _) s.w_le
    exact h.exec_eq_next_of_ready hr (addBody_eq hd hn ha (h.operand_eq s ▸ hm) rfl rfl rfl (hlt _)
      fun x y hx hy => subC_eq hpos hk64 hx hy s.sr.c)

end Sys2Proof.Machine
end

section
/-! What is refused: an operation wider than `W`, decimal arithmetic, UM and JPU without the hypervisor option, SMMU (R250,
R358, R411, R628, R701). -/

namespace Sys2Proof.Machine

open Sys2Proof.Claims

/-! ### The width check -/

/-- A body that refuses an operation wider than `W` (R250). -/
def RefusesWide (p : Pfx) (body : State → Res State) : Prop :=
  ∀ u : State, u.w < opBits p → body u = refuse u .widthTooLarge

theorem withWidth_refusesWide (p : Pfx) (body : State → Res State) : RefusesWide p (withWidth p body) :=
  fun _ hu => if_pos hu

/-- A return address is wider than `W` where the operation is (R411). -/
theorem lt_returnBytes {p : Pfx} {u : State} (hu : u.w < opBits p) : u.w < 8 * returnBytes p := by
  rw [returnBytes_eq]
  split
  · rename_i hsize
    have hw := u.w_ge
    rw [opBits, hsize, Size.bytes] at hu
    omega
  · exact hu

theorem callBody_refusesWide (f : Format) (p : Pfx) (op : Word) : RefusesWide p (callBody f p op) :=
  fun _ hu => if_pos (lt_returnBytes hu)

theorem branchCallBody_refusesWide (f : Format) (p : Pfx) (op : Word) : RefusesWide p (branchCallBody f p op) :=
  fun _ hu => if_pos (lt_returnBytes hu)

theorem returnBody_refusesWide (p : Pfx) : RefusesWide p (returnBody p) :=
  fun _ hu => if_pos (lt_returnBytes hu)

/-! ### Every instruction -/

/-- What an instruction performs, as its row says; a body that reads RS, but for the offset of a branch, checks the width. -/
structure PerformsRow (i : Instr) (s : State) : Prop where
  eq : ∃ undo body, exec i s = performFrom undo i.view.row.page i.view.row.format i.view.pfx s body ∧
    (i.view.row.takes.rs = true → i.view.row.format ≠ .rel → RefusesWide i.view.pfx body)

/-- The instructions that list RS are the branches, the calls and RTS, and those whose body starts with the width check. -/
theorem exec_performsRow (i : Instr) (s : State) : PerformsRow i s := by
  cases i
  case bpl | bmi | bvc | bvs | bra | bcc | bcs | bne | beq => exact ⟨_, _, rfl, fun _ hrel => absurd rfl hrel⟩
  case jsrAbs | jsrIndAbs | jsrIndAbsX | jsrQindAbs | jsrQindAbsX | jsrE =>
    exact ⟨_, _, rfl, fun _ _ => callBody_refusesWide _ _ _⟩
  case bsrRelWide | bsrRel => exact ⟨_, _, rfl, fun _ _ => branchCallBody_refusesWide _ _ _⟩
  case rts => exact ⟨_, _, rfl, fun _ _ => returnBody_refusesWide _⟩
  case smmu => exact ⟨_, fun t => refuse t .mmuBaseUndefined, rfl, fun hrs => nomatch hrs⟩
  case brk | php | clc | plp | sec | rti | jmpAbs | cli | jmpIndAbs | sei | jmpIndAbsX | clv | cld | nop | trp | sed |
      jmpQindAbs | jmpQindAbsX | leaZpY | mvn | phe | mvp | peaZpY | ple | leaIndAbsY | leaRelWide | phb | peaRelWide
      | prb | leaIndAbsX | rmb | plb | wmb | leaRel | peaIndZpX | peaRel | peaZp | leaZp | peaIndZpY | peaIndZp |
      peaZpX | leaZpX | tea | peaAbsY | sxy | leaIndZpX | peaAbs | leaAbs | leaIndZpY | leaIndZp | seb | leaAbsY | sax
      | peaAbsX | leaAbsX | peaIndAbsY | tpa | sae | say | peaIndAbsX | rmbE | wmbE | tba | lcr | senv | senvE | scr |
      bcr | jpuAbs | cleim | rtu | jpuIndAbs | filu | mvnfu | mvpfu | wai | mvntu | stp | mvptu | incQuickE |
      decQuickE | rolQuickE | rorQuickE | rdlQuickE | rdrQuickE | aslQuickE | lsrQuickE | asrQuickE | incQuickZp |
      decQuickZp | rolQuickZp | rorQuickZp | aslQuickZp | lsrQuickZp =>
    exact ⟨_, _, rfl, fun hrs => nomatch hrs⟩
  all_goals exact ⟨_, _, rfl, fun _ _ => withWidth_refusesWide _ _⟩

section Refused

variable {i : Instr} {p : Pfx} {op : Word} {s : State}

theorem exec_eq_widthTooLarge (hrs : i.view.row.takes.rs = true) (hrel : i.view.row.format ≠ .rel)
    (hp : permitted i s = true) (hwide : s.w < opBits i.view.pfx) : exec i s = .refused .widthTooLarge := by
  obtain ⟨undo, body, hexec, hbody⟩ := (exec_performsRow i s).eq
  rw [hexec, performFrom_of_permitted hp, hbody hrs hrel (past i s) hwide]
  rfl

/-- Without the hypervisor option the mode is the hypervisor's, so UM is no privilege violation but refused (R701). -/
theorem isHyp_of_no_hyp (hhyp : s.cfg.hyp = false) : s.isHyp = true := by simp [State.isHyp, hhyp]

theorem exec_eq_userSelectorWithoutHyp (hhyp : s.cfg.hyp = false) (hum : i.view.pfx.um = true) :
    exec i s = .refused .userSelectorWithoutHyp := by
  obtain ⟨undo, body, hexec, -⟩ := (exec_performsRow i s).eq
  rw [hexec, performFrom, if_neg (by simp [isHyp_of_no_hyp hhyp]), if_pos ⟨hum, hhyp⟩]

theorem permitted_of_no_hyp (hhyp : s.cfg.hyp = false) (hum : i.view.pfx.um = false) : permitted i s = true := by
  simp [permitted, isHyp_of_no_hyp hhyp, hum]

theorem exec_jpuAbs_without_hyp (hhyp : s.cfg.hyp = false) (hum : p.um = false) :
    exec (.jpuAbs p op) s = .refused .jpuWithoutHyp := by
  have hi : HasBody (.jpuAbs p op) s (enterUserBody p op) := rfl
  exact exec_eq_refused hi (permitted_of_no_hyp hhyp hum) (if_pos hhyp)

theorem exec_jpuIndAbs_without_hyp (hhyp : s.cfg.hyp = false) (hum : p.um = false) :
    exec (.jpuIndAbs p op) s = .refused .jpuWithoutHyp := by
  have hi : exec (.jpuIndAbs p op) s = performFrom (s.setH false) .sys .indAbs p s (enterUserIndirectBody p op) := rfl
  have hbody : enterUserIndirectBody p op (past (.jpuIndAbs p op) s) = refuse (past (.jpuIndAbs p op) s) .jpuWithoutHyp :=
    if_pos hhyp
  have hfinish := performFrom_of_permitted (permitted_of_no_hyp (i := .jpuIndAbs p op) hhyp hum) (s.setH false)
    (enterUserIndirectBody p op)
  rw [hbody] at hfinish
  exact hi.trans hfinish

/-- ADC and SBC look at `D` before they read their operand (R358). -/
theorem addBody_decimal (sub : Bool) (f : Format) (p : Pfx) (op : Word) {u : State} (hd : u.sr.d = true) :
    addBody sub f p op u = refuse u .decimalArithmetic := if_pos hd

theorem sumForms_refuse_decimal {mk : Form} (hmk : mk ∈ addForms ++ subtractForms) (hr : ready (mk p op) s = true)
    (hd : s.sr.d = true) : exec (mk p op) s = .refused .decimalArithmetic := by
  rcases List.mem_append.1 hmk with he | he
  · exact (addForms_means p op mk he).exec_eq_refused_of_ready hr (addBody_decimal _ _ _ _ hd)
  · exact (subtractForms_means p op mk he).exec_eq_refused_of_ready hr (addBody_decimal _ _ _ _ hd)

end Refused

/-- Settles O48: each clause is the check that its instructions make before anything else. -/
theorem refusalsTheSpecOrders : Obligations.RefusalsTheSpecOrders := by
  refine ⟨fun i s => exec_eq_widthTooLarge, fun mk hmk p op s => sumForms_refuse_decimal hmk,
    fun i s => exec_eq_userSelectorWithoutHyp,
    fun p op s hhyp hum => ⟨exec_jpuAbs_without_hyp hhyp hum, exec_jpuIndAbs_without_hyp hhyp hum⟩, fun p s hp => ?_⟩
  have hi : HasBody (.smmu p) s fun t => refuse t .mmuBaseUndefined := rfl
  exact exec_eq_refused hi hp rfl

end Sys2Proof.Machine
end

section
/-! Stores and transfers (R252, R253, R257, R300, R304 to R314, R322, R504 to R508, R585 to R593). -/

namespace Sys2Proof.Machine

open Sys2Proof.Claims

/-! ### Stores -/

/-- What writes at the effective address stores its cells there and changes nothing else but the pc (R107, R304). -/
theorem storeBody_past_of_writable {i : Instr} {f : Format} {p : Pfx} {op ea v : Word} {s : State} (hm : s.mem.wf = true)
    (ha : effectiveAddress f p op (past i s) = .ok ea)
    (hw : writable s (s.denv p) (upward ea (littleEndian p.size.bytes v.toNat)) = true) :
    ∃ m, storeBody f p op v (past i s) = .ok { past i s with mem := m } ∧
      Stores s (s.denv p) (upward ea (littleEndian p.size.bytes v.toNat)) m := by
  rw [storeBody, ha]
  exact memWrite_of_writable (s := past i s) hm hw

theorem stores_write {p : Pfx} {op ea : Word} {s : State} (hm : s.mem.wf = true) {r : Option Reg} {mk : Form}
    (hmk : (r, mk) ∈ stores) (hr : ready (mk p op) s = true) (ha : address (mk p op) s = .ok ea)
    (hw : writable s (s.denv p) (upward ea (littleEndian p.size.bytes (storedValue r s).toNat)) = true) :
    ∃ m, exec (mk p op) s = .next { past (mk p op) s with mem := m } ∧
      Stores s (s.denv p) (upward ea (littleEndian p.size.bytes (storedValue r s).toNat)) m := by
  have h := stores_means p op _ hmk
  obtain ⟨m, hbody, hstores⟩ := storeBody_past_of_writable hm (h.address_eq s ▸ ha) hw
  rw [← storedValue_past r (mk p op) s] at hbody
  exact ⟨m, h.exec_eq_next_of_ready (g := fun f op t => storeBody f p op (storedValue r t) t) hr hbody, hstores⟩

/-- Settles O18: every form of the list is one write of its register, or of zero, at its effective address. -/
theorem storesWriteTheRegisterBytes : Obligations.StoresWriteTheRegisterBytes := by
  intro r mk hmk p op s ea hwf v cells hr ha hw
  have hm := (GoodState.of_wellFormed hwf).memory.canonical
  cases r with
  | none => exact stores_write hm hmk hr ha hw
  | some q => exact stores_write hm hmk hr ha hw

/-! ### Transfers -/

theorem transfers_means (p : Pfx) (op : Word) : ∀ e ∈ transfers,
    Means (e.2.2 p op) p fun _ _ => withWidth p fun t => transferBody e.1 p (e.2.1 p t) t := by
  simp only [transfers, List.forall_mem_cons, List.not_mem_nil, false_implies, implies_true, and_true]
  and_intros
  all_goals exact ⟨rfl, fun _ => rfl⟩

theorem ofReg_past (r : Reg) (p : Pfx) (i : Instr) (s : State) : ofReg r p (past i s) = ofReg r p s := State.setPc_reg ..

theorem stackPointer_past (p : Pfx) (i : Instr) (s : State) : stackPointer p (past i s) = stackPointer p s :=
  State.setPc_sp ..

/-- No transfer of the list takes the pc, so the fetch leaves every source. -/
theorem transfers_source_past (p : Pfx) (i : Instr) (s : State) : ∀ e ∈ transfers, e.2.1 p (past i s) = e.2.1 p s := by
  simp [transfers, ofReg_past, stackPointer_past]

/-- A transfer loads the low `n` bits of its source (R308). -/
theorem transferBody_eq {p : Pfx} {s : State} (hn : opBits p ≤ s.w) (r : Reg) (src : Word) :
    transferBody r p src s = .ok
      { s.setReg r (word (loaded (opBits p) s.w (p.extension .zero) (s.reg r).toNat (src.toNat % 2 ^ opBits p))) with
        sr := flagsNZ p.nf (opBits p) (src.toNat % 2 ^ opBits p) s.sr } := by
  rw [← low_toNat]
  exact congrArg _ (unlessNf_setNZ_setReg_loadInto hn s.w_le (low_lt _ _) r)

/-- Settles O19: every form of the list is one transfer of a source that the fetch leaves. -/
theorem transfersExtendTheSource : Obligations.TransfersExtendTheSource := by
  intro r src mk hmk p op s hr
  have h := transfers_means p op _ hmk
  have hsrc : src p (past (mk p op) s) = src p s := transfers_source_past p (mk p op) s _ hmk
  have hreg : (past (mk p op) s).reg r = s.reg r := State.setPc_reg ..
  rw [← hsrc, ← hreg]
  exact h.exec_eq_next_of_ready (g := fun _ _ t => transferBody r p (src p t) t) hr
    (transferBody_eq (s := past (mk p op) s) (h.opBits_le hr) r _)

/-! ### TXS and TYS -/

theorem toStack_means (p : Pfx) (op : Word) : ∀ e ∈ toStack,
    Means (e.2 p op) p fun _ _ => withWidth p fun t => toStackBody p (t.reg e.1) t := by
  simp only [toStack, List.forall_mem_cons, List.not_mem_nil, false_implies, implies_true, and_true]
  and_intros
  all_goals exact ⟨rfl, fun _ => rfl⟩

/-- The low `n` bits of the source go to the stack pointer of the data environment (R322, R593). -/
theorem toStackBody_eq {p : Pfx} {s : State} (hn : opBits p ≤ s.w) (src : Word) :
    toStackBody p src s = .ok (s.setSp (s.denv p) (word (loaded (opBits p) s.w (toStackExtension p s.cfg)
      (s.sp (s.denv p)).toNat (src.toNat % 2 ^ opBits p)))) := by
  rw [toStackBody, loadInto_eq_word hn s.w_le _ _ (low_lt _ _), low_toNat]

/-- Settles O20: both forms are one transfer to the stack pointer; its extension is the statement's. -/
theorem stackPointerTransfersSetNoFlag : Obligations.StackPointerTransfersSetNoFlag := by
  intro r mk hmk p op s hr plain e
  have h := toStack_means p op _ hmk
  have hext : toStackExtension p s.cfg = e := by simp only [toStackExtension_eq, unprefixed_iff, e, plain]
  have hreg : (past (mk p op) s).reg r = s.reg r := State.setPc_reg ..
  have hsp : (past (mk p op) s).sp (s.denv p) = s.sp (s.denv p) := State.setPc_sp ..
  rw [← hext, ← hreg, ← hsp]
  exact h.exec_eq_next_of_ready (g := fun _ _ t => toStackBody p (t.reg r) t) hr
    (toStackBody_eq (s := past (mk p op) s) (h.opBits_le hr) _)

end Sys2Proof.Machine
end

section
/-! PHP and PLP (R321, R323). -/

namespace Sys2Proof.Machine

open Sys2Proof.Claims

/-- The byte that PHP pushes is the status byte as a number (R28, R321). -/
theorem bigEndian_statusByte (r : Status) (bit5 bit4 : Bool) :
    bigEndian 1 ((statusByte r bit5 bit4).setWidth 64).toNat = [BitVec.ofNat 8 (statusNumber r bit5 bit4)] := by
  rw [BitVec.toNat_setWidth_of_le (by decide), statusByte_toNat]
  simp [bigEndian, littleEndian]

theorem php_writes {p : Pfx} {s : State} (hgood : GoodState s.w s) (hp : permitted (.php p) s = true)
    (hw : writable s s.cur (downward (s.sp s.cur) [BitVec.ofNat 8 (statusNumber s.sr true true)]) = true) :
    ∃ m, exec (.php p) s = .next { (past (.php p) s).setSp s.cur (s.sp s.cur - 1) with mem := m } ∧
      Stores s s.cur (downward (s.sp s.cur) [BitVec.ofNat 8 (statusNumber s.sr true true)]) m := by
  have hi : HasBody (.php p) s pushStatus := rfl
  rw [← bigEndian_statusByte] at hw ⊢
  obtain ⟨m, hpush, hstores⟩ := push_past_of_writable (i := .php p) hgood.memory.canonical (hgood.sp_lt _) hw
  exact ⟨m, exec_eq_next hi hp hpush, hstores⟩

/-- PLP takes the six flags of the byte above the stack pointer and keeps the mode bits (R323). -/
theorem pullStatus_eq {s : State} {m : Word} (hm : memRead s s.cur (s.sp s.cur + 1) 1 = .ok m) :
    pullStatus s = .ok { s.setSp s.cur (s.sp s.cur + word 1) with sr := loadedFlags s.sr m } := by
  simp only [pullStatus, pull_of_memRead (by decide) hm, load_setWidth, State.setSp_sr]

/-- Settles O24: PHP is a push of one byte on the current stack, PLP the pull of one. -/
theorem statusIsPushedAndPulled : Obligations.StatusIsPushedAndPulled := by
  refine ⟨fun p s hwf => php_writes (.of_wellFormed hwf), fun p s m hp hm => ?_⟩
  have hi : HasBody (.plp p) s pullStatus := rfl
  exact exec_eq_next hi hp (pullStatus_eq ((memRead_past ..).trans hm))

end Sys2Proof.Machine
end

section
/-! ORA, AND and EOR (R350 to R353, R509 to R511). -/

namespace Sys2Proof.Machine

open Sys2Proof.Claims

/-! ### Flags of a value at a width -/

theorem low_beq_zero (n : Nat) (v : Word) : (low n v == 0) = decide (v.toNat % 2 ^ n = 0) := by
  rw [Bool.eq_iff_iff, beq_iff_eq, decide_eq_true_eq, ← BitVec.toNat_inj, low_toNat]
  rfl

/-- `N` and `Z` look at the low `n` bits only (R257); NF keeps the flags (R259). -/
theorem unlessNf_setNZ_mod {n : Nat} (hn : 0 < n) (v : Word) (p : Pfx) (s : State) :
    unlessNf p (setNZ n v) s = { s with sr := flagsNZ p.nf n (v.toNat % 2 ^ n) s.sr } := by
  rw [unlessNf, setNZ, topBit_eq_mod hn, low_beq_zero]
  cases p.nf <;> rfl

/-! ### Bit by bit -/

/-- An operation on words that does `g` to each pair of bits. -/
def ActsBitwise (g : Bool → Bool → Bool) (f : Word → Word → Word) : Prop :=
  ∀ (u v : Word) (j : Nat), (f u v).getLsbD j = g (u.getLsbD j) (v.getLsbD j)

/-- Each form of the list does to words what the list says of bits. -/
theorem logicForms_means_bitwise (p : Pfx) (op : Word) : ∀ e ∈ logicForms,
    ∃ f, Means (e.2 p op) p (fun fmt op => withWidth p (logicBody f fmt p op)) ∧ ActsBitwise e.1 f := by
  simp only [logicForms, List.forall_mem_cons, List.not_mem_nil, false_implies, implies_true, and_true]
  and_intros
  all_goals exact ⟨_, ⟨rfl, fun _ => rfl⟩, by simp [ActsBitwise]⟩

/-- Words that agree modulo `2^k` have the same bits below `k`. -/
theorem getLsbD_eq_of_mod_eq {k j : Nat} (hj : j < k) {u v : Word} (h : u.toNat % 2 ^ k = v.toNat % 2 ^ k) :
    u.getLsbD j = v.getLsbD j := by
  have hbit := congrArg (Nat.testBit · j) h
  simpa only [BitVec.getLsbD, Nat.testBit_mod_two_pow, hj, decide_true, Bool.true_and] using hbit

/-- What is written to the low bits of a register is read there. -/
theorem low_insertLow_toNat_mod {k w : Nat} (hkw : k ≤ w) (old v : Word) :
    (low w (insertLow k old v)).toNat % 2 ^ k = v.toNat % 2 ^ k := by
  rw [low_toNat, Nat.mod_mod_of_dvd _ (Nat.pow_dvd_pow 2 hkw), insertLow_toNat, Nat.mul_add_mod_self_right, Nat.mod_mod]

/-- The accumulator after `AluWrite`, bit by bit (R350). -/
theorem low_insertLow_getLsbD {k w : Nat} (hkw : k ≤ w) {old : Word} (hold : old.toNat < 2 ^ w) (v : Word) (j : Nat) :
    (low w (insertLow k old v)).getLsbD j = if j < k then v.getLsbD j else old.getLsbD j := by
  rw [low_getLsbD, insertLow_getLsbD]
  by_cases hj : j < k
  · simp [hj, Nat.lt_of_lt_of_le hj hkw]
  · have hbit : (low w old).getLsbD j = old.getLsbD j := by rw [low_eq_self hold]
    simpa [hj] using hbit

/-- A bitwise operation on the operands, at the working width (R350 to R353). -/
theorem logicBody_eq {f : Word → Word → Word} {fmt : Format} {p : Pfx} {op m : Word} {s : State} (hn : opBits p ≤ s.w)
    (hm : sourceOperand fmt p op s = .ok m) :
    let k := workWidth (p.extension .none) (opBits p) s.w
    let q := aluArgs s.a p m s
    let a := low s.w (insertLow k s.a (f q.l q.m))
    logicBody f fmt p op s = .ok { s with a := a, sr := flagsNZ p.nf k (a.toNat % 2 ^ k) s.sr } := by
  intro k q a
  have hwidth : q.k = k := (aluArgs_numbers s.a hn (sourceOperand_lt hm)).width
  rw [logicBody, hm]
  refine congrArg Except.ok ?_
  rw [hwidth, unlessNf_setNZ_mod (workWidth_pos (opBits_pos p) s.w_pos _), low_insertLow_toNat_mod (workWidth_le hn _)]
  rfl

/-- Settles O25: every form of the list is one operation on words that acts bit by bit. -/
theorem logicWorksBitByBit : Obligations.LogicWorksBitByBit := by
  intro g mk hmk p op s m hwf hr hm k r
  obtain ⟨f, h, hbits⟩ := logicForms_means_bitwise p op _ hmk
  have ha : s.a.toNat < 2 ^ s.w := (GoodState.of_wellFormed hwf).wide (by simp [State.wideRegisters])
  have hn := h.opBits_le hr
  have hkw : k ≤ s.w := workWidth_le hn _
  have hm' := h.operand_eq s ▸ hm
  have hargs := aluArgs_numbers (s := past (mk p op) s) s.a hn (sourceOperand_lt hm')
  have hlt : extended (opBits p) s.w (p.extension .none) m.toNat < 2 ^ k :=
    extended_lt_workWidth hn _ (sourceOperand_lt hm')
  refine ⟨_, h.exec_eq_next_of_ready hr (logicBody_eq hn hm'), fun j => (low_insertLow_getLsbD hkw ha _ j).trans ?_⟩
  refine ite_congr rfl (fun hj => (hbits ..).trans (congrArg₂ g ?_ ?_)) fun _ => rfl
  · exact getLsbD_eq_of_mod_eq hj hargs.left
  · refine getLsbD_eq_of_mod_eq hj (hargs.right.trans ?_)
    rw [toNat_word_of_lt (Nat.le_trans hkw s.w_le) hlt, Nat.mod_eq_of_lt hlt]
    rfl

end Sys2Proof.Machine
end

section
/-! Compares and bit tests (R360 to R364, R514 to R517, R600). -/

namespace Sys2Proof.Machine

open Sys2Proof.Claims

/-! ### Compares -/

/-- The flags of the difference of `k`-bit values, `V` only where CMP_SETS_V says so (R360, R361). -/
def comparedFlags (setsV : Bool) (k l r : Nat) (q : Status) : Status :=
  { q with
    n := decide (2 ^ (k - 1) ≤ (l + 2 ^ k - r) % 2 ^ k)
    z := decide (l = r)
    c := decide (r ≤ l)
    v := if setsV then overflows k (signed k l - signed k r) else q.v }

/-- A compare is a difference without a borrow that only sets flags (R360, R361). -/
theorem setCompare_eq {k : Nat} (hk : 0 < k) (hk64 : k ≤ 64) {a b : Word} {l r : Nat} (hl : a.toNat % 2 ^ k = l)
    (hr : b.toNat % 2 ^ k = r) (s : State) :
    setCompare k a b s = { s with sr := comparedFlags s.cfg.cmpSetsV k l r s.sr } := by
  have hlt : (l + 2 ^ k - r) % 2 ^ k < 2 ^ k := Nat.mod_lt _ (Nat.two_pow_pos k)
  have hl' : l < 2 ^ k := hl ▸ Nat.mod_lt _ (Nat.two_pow_pos k)
  have hr' : r < 2 ^ k := hr ▸ Nat.mod_lt _ (Nat.two_pow_pos k)
  have hnat := toNat_word_of_lt hk64 hlt
  have hzero : (l + 2 ^ k - r) % 2 ^ k = 0 ↔ l = r := by
    rcases Nat.lt_or_ge l r with h | h
    · rw [Nat.mod_eq_of_lt (by omega)]
      omega
    · rw [Nat.sub_add_comm h, Nat.add_mod_right, Nat.mod_eq_of_lt (by omega)]
      omega
  have hdiff := subC_eq hk hk64 hl hr true
  simp only [Bool.toNat_true, Nat.sub_self, Nat.sub_zero, Nat.add_zero, Nat.cast_zero, sub_zero] at hdiff
  simp only [setCompare, hdiff, setNZ_eq hk (hnat.symm ▸ hlt), hnat, flagsNZ, comparedFlags, hzero]
  cases s.cfg.cmpSetsV <;> rfl

theorem compareBody_eq {q : Reg} {f : Format} {p : Pfx} {op m : Word} {s : State} (hn : opBits p ≤ s.w)
    (hm : sourceOperand f p op s = .ok m) :
    let k := workWidth (p.extension .none) (opBits p) s.w
    let l := (s.reg q).toNat % 2 ^ k
    let r := extended (opBits p) s.w (p.extension .none) m.toNat
    compareBody q f p op s = .ok { s with sr := comparedFlags s.cfg.cmpSetsV k l r s.sr } := by
  intro k l r
  have hargs := aluArgs_numbers (s := s) (s.reg q) hn (sourceOperand_lt hm)
  have hk : 0 < k := workWidth_pos (opBits_pos p) s.w_pos _
  have hk64 : k ≤ 64 := Nat.le_trans (workWidth_le hn _) s.w_le
  rw [compareBody, hm]
  refine congrArg Except.ok ?_
  rw [hargs.width]
  exact setCompare_eq hk hk64 hargs.left hargs.right s

/-- Settles O27: every form of the list is one difference of its register and its operand that is not stored. -/
theorem compareSetsFlagsOnly : Obligations.CompareSetsFlagsOnly := by
  intro q mk hmk p op s m _ hr hm k l r
  have h := compareForms_means p op _ hmk
  have hbody := compareBody_eq (q := q) (s := past (mk p op) s) (h.opBits_le hr) (h.operand_eq s ▸ hm)
  have hreg : (past (mk p op) s).reg q = s.reg q := State.setPc_reg ..
  rw [hreg] at hbody
  exact h.exec_eq_next_of_ready hr hbody

/-! ### Bit tests -/

/-- A bit below `k` from the value modulo `2^k`. -/
theorem getLsbD_eq_of_mod {k j r : Nat} (hj : j < k) {v : Word} (h : v.toNat % 2 ^ k = r) :
    v.getLsbD j = (r / 2 ^ j % 2 == 1) := by
  have hbit : (v.toNat % 2 ^ k).testBit j = v.getLsbD j := by simp [Nat.testBit_mod_two_pow, hj, BitVec.getLsbD]
  rw [← hbit, h, Nat.testBit_eq_decide_div_mod_eq, beq_eq_decide]

/-- BIT at the working width: the immediate form sets `Z` only (R363). -/
theorem bitBody_eq {f : Format} {p : Pfx} {op m : Word} {s : State} (hn : opBits p ≤ s.w)
    (hm : sourceOperand f p op s = .ok m) :
    let k := workWidth (p.extension .none) (opBits p) s.w
    let r := extended (opBits p) s.w (p.extension .none) m.toNat
    let z := decide ((s.a.toNat % 2 ^ k) &&& r = 0)
    bitBody f p op s = .ok { s with
      sr := if p.nf then s.sr
        else if f = .imm then { s.sr with z := z }
        else { s.sr with n := decide (2 ^ (k - 1) ≤ r), v := r / 2 ^ (k - 2) % 2 == 1, z := z } } := by
  intro k r z
  have hargs := aluArgs_numbers (s := s) s.a hn (sourceOperand_lt hm)
  have hk : 0 < k := workWidth_pos (opBits_pos p) s.w_pos _
  rw [bitBody, hm]
  refine congrArg Except.ok ?_
  rw [hargs.width, low_beq_zero, BitVec.toNat_and, Nat.and_mod_two_pow, hargs.left, topBit_eq_mod hk, hargs.right,
    getLsbD_eq_of_mod (Nat.sub_lt hk Nat.two_pos) hargs.right, unlessNf]
  cases p.nf with
  | true => rfl
  | false =>
    simp only [Bool.false_eq_true, if_false]
    split
    · rfl
    · rfl

/-- BIT A looks at the low `n` bits of the accumulator alone (R600). -/
theorem bitAccum_eq (p : Pfx) (s : State) :
    let l := s.a.toNat % 2 ^ opBits p
    bitAccum p s = .ok { s with
      sr := if p.nf then s.sr
        else { s.sr with
          n := decide (2 ^ (opBits p - 1) ≤ l), v := l / 2 ^ (opBits p - 2) % 2 == 1, z := decide (l = 0) } } := by
  intro l
  have hn := opBits_pos p
  rw [bitAccum, topBit_eq_mod hn, low_beq_zero, getLsbD_eq_of_mod (Nat.sub_lt hn Nat.two_pos) rfl, unlessNf]
  cases p.nf with
  | true => rfl
  | false => rfl

/-- Settles O28: the forms of the list test their operand, BIT A the accumulator. -/
theorem bitTestSetsFlagsOnly : Obligations.BitTestSetsFlagsOnly := by
  refine ⟨fun mk hmk p op s m _ hr hm => ?_, fun p s hr => ?_⟩
  · have h := bitForms_means p op mk hmk
    exact h.exec_eq_next_of_ready hr (bitBody_eq (h.opBits_le hr) (h.operand_eq s ▸ hm))
  · have h : Means (.bitA p) p fun _ _ => withWidth p (bitAccum p) := ⟨rfl, fun _ => rfl⟩
    exact h.exec_eq_next_of_ready hr (bitAccum_eq p _)

end Sys2Proof.Machine
end

section
/-! Single steps on memory and on registers, QUICK forms included (R255, R365 to R374, R440 to R474, R520 to R528). -/

namespace Sys2Proof.Machine

open Sys2Proof.Claims

/-! ### Steps repeated -/

/-- Steps repeated give an `n`-bit value (R440). -/
theorem repeated_lt {n : Nat} (hn : 0 < n) (h64 : n ≤ 64) (k : Step1) : ∀ (t : Nat) {v : Word} (c : Bool),
    v.toNat < 2 ^ n → (k.repeated n t v c).1.toNat < 2 ^ n
  | 0, _, _, hv => hv
  | t + 1, _, c, hv => repeated_lt hn h64 k t _ (apply_lt hn h64 hv k c)

/-- The carry too is that of the statements' arithmetic (R440). -/
theorem repeated_carry {n : Nat} (hn : 0 < n) (h64 : n ≤ 64) (k : Step1) : ∀ (t : Nat) {v : Word} (c : Bool),
    v.toNat < 2 ^ n → (k.repeated n t v c).2 = (steppedTimes k n t (v.toNat, c)).2
  | 0, _, _, _ => rfl
  | t + 1, v, c, hv => by
    obtain ⟨hvalue, hcarry⟩ := apply_eq_stepped hn h64 hv k c
    rw [Step1.repeated, repeated_carry hn h64 k t _ (apply_lt hn h64 hv k c), hvalue, hcarry]
    rfl

/-- A step on `n` bits does not see the bits above (R255). -/
theorem apply_low {n : Nat} (hn : 0 < n) (h64 : n ≤ 64) (k : Step1) (v : Word) (c : Bool) :
    k.apply n (low n v) c = k.apply n v c := by
  have htop : topBit n (low n v) = topBit n v := by simp [topBit, hn]
  have hbit : (low n v).getLsbD 0 = v.getLsbD 0 := by simp [hn]
  have hshift : ∀ b : Word, low n (low n v <<< 1 ||| b) = low n (v <<< 1 ||| b) := fun b => by
    apply BitVec.eq_of_getLsbD_eq
    intro j _
    simp only [low_getLsbD, BitVec.getLsbD_or, BitVec.getLsbD_shiftLeft]
    by_cases hj : j < n
    · simp [hj, show j - 1 < n by omega]
    · simp [hj]
  cases k with
  | inc => exact congrArg (·, c) (low_low_add n v 1 h64)
  | dec => exact congrArg (·, c) (by simpa only [sub_eq_add_neg] using low_low_add n v (-1) h64)
  | asl => exact Prod.ext (by simpa [Step1.apply] using hshift 0) htop
  | lsr | ror => simp only [Step1.apply, low_low, hbit]
  | rol => exact Prod.ext (hshift _) htop
  | asr | rdr => simp only [Step1.apply, low_low, htop, hbit]
  | rdl => simp only [Step1.apply, htop, hshift]

/-- The flags after the last step (R257, R259, R440). -/
theorem unlessNf_setFlags {n : Nat} (hn : 0 < n) {vc : Word × Bool} (hv : vc.1.toNat < 2 ^ n) (k : Step1) (p : Pfx)
    (s : State) :
    unlessNf p (k.setFlags n vc) s = { s with sr := flagsStep k p.nf n (vc.1.toNat, vc.2) s.sr } := by
  simp only [unlessNf, Step1.setFlags, setNZ_eq hn hv, flagsStep]
  cases p.nf with
  | true => rfl
  | false => cases k <;> rfl

/-! ### Memory -/

/-- What the forms on memory share: one read of `nb` bytes, `t` steps on them, one write, one flag update (R255, R474). -/
def stepMemory (k : Step1) (nb t : Nat) (f : Format) (p : Pfx) (op : Word) (s : State) : Res State :=
  match effectiveAddress f p op s with
  | .error h => .error h
  | .ok ea => match memRead s (s.denv p) ea nb with
    | .error h => .error h
    | .ok m =>
      let vc := k.repeated (8 * nb) t m s.sr.c
      match memWrite s (s.denv p) ea nb vc.1 with
      | .error h => .error h
      | .ok u => .ok (unlessNf p (k.setFlags (8 * nb) vc) u)

theorem modifyBody_eq_stepMemory (k : Step1) (f : Format) (p : Pfx) (op : Word) (s : State) :
    modifyBody k f p op s = stepMemory k p.size.bytes 1 f p op s := rfl

theorem quickMemBody_eq_stepMemory (k : Step1) (f : Format) (p : Pfx) (op : Word) (cnt : BitVec 3) (s : State) :
    quickMemBody k f p op cnt s = stepMemory k 1 (cnt.toNat + 1) f p op s := rfl

/-- After the fetch, steps on memory that can be read and written complete (R255, R474). -/
theorem stepMemory_past_of_writable {i : Instr} {k : Step1} {nb t : Nat} {f : Format} {p : Pfx} {op ea m : Word} {s : State}
    (hwf : s.mem.wf = true) (hnb : 0 < 8 * nb) (h64 : 8 * nb ≤ 64) (ha : effectiveAddress f p op (past i s) = .ok ea)
    (hread : memRead s (s.denv p) ea nb = .ok m) :
    let q := steppedTimes k (8 * nb) t (m.toNat, s.sr.c)
    let cells := upward ea (littleEndian nb q.1)
    writable s (s.denv p) cells = true →
    ∃ m', stepMemory k nb t f p op (past i s) =
        .ok { past i s with mem := m', sr := flagsStep k p.nf (8 * nb) q s.sr } ∧ Stores s (s.denv p) cells m' := by
  intro q cells hw
  have hm := memRead_lt hread
  have hvalue : (k.repeated (8 * nb) t m s.sr.c).1.toNat = q.1 := repeated_eq_steppedTimes hnb h64 k t _ hm
  have hcarry : (k.repeated (8 * nb) t m s.sr.c).2 = q.2 := repeated_carry hnb h64 k t _ hm
  have hlt := repeated_lt hnb h64 k t s.sr.c hm
  have hread' : memRead (past i s) ((past i s).denv p) ea nb = .ok m := (memRead_past ..).trans hread
  simp only [cells, ← hvalue] at hw ⊢
  obtain ⟨m', hwrite, hstores⟩ := memWrite_of_writable (s := past i s) hwf hw
  refine ⟨m', ?_, hstores⟩
  have hwrite' : memWrite (past i s) ((past i s).denv p) ea nb (k.repeated (8 * nb) t m (past i s).sr.c).1 =
      .ok { past i s with mem := m' } := hwrite
  simp only [stepMemory, ha, hread', hwrite']
  refine congrArg Except.ok ((unlessNf_setFlags hnb hlt k p _).trans ?_)
  rw [hvalue, hcarry]
  rfl

/-- Settles O29: a form of either list is its steps on the bytes at its effective address. -/
theorem memoryStepsReadAndWriteOnce : Obligations.MemoryStepsReadAndWriteOnce := by
  intro k quick mk hmk p op cnt s ea m hwf i n q cells hr ha hread hw
  have hmem := (GoodState.of_wellFormed hwf).memory.canonical
  have h := memoryStepForms_means p op cnt _ hmk
  have ha' := h.address_eq s ▸ ha
  cases quick with
  | true =>
    have h' : Means i p fun f op => quickMemBody k f p op cnt := h
    have hnb : n / 8 = 1 := by simp [n]
    simp only [cells, hnb] at hread hw ⊢
    obtain ⟨m', hbody, hstores⟩ :=
      stepMemory_past_of_writable (nb := 1) (t := cnt.toNat + 1) hmem (by decide) (by decide) ha' hread hw
    exact ⟨m', h'.exec_eq_next (permitted_of_ready hr) ((quickMemBody_eq_stepMemory ..).trans hbody), hstores⟩
  | false =>
    have h' : Means i p fun f op => withWidth p (modifyBody k f p op) := h
    have hnb : n / 8 = p.size.bytes := opBits_div p
    simp only [cells, hnb] at hread hw ⊢
    obtain ⟨m', hbody, hstores⟩ :=
      stepMemory_past_of_writable (nb := p.size.bytes) (t := 1) hmem (opBits_pos p) (opBits_le p) ha' hread hw
    exact ⟨m', h'.exec_eq_next_of_ready hr ((modifyBody_eq_stepMemory ..).trans hbody), hstores⟩

/-! ### Registers -/

/-- What the forms on a register share: `t` steps on the low `n` bits, one write, one flag update (R255, R474). -/
def stepRegister (k : Step1) (t : Nat) (r : Reg) (p : Pfx) (s : State) : Res State :=
  let vc := k.repeated (opBits p) t (low (opBits p) (s.reg r)) s.sr.c
  .ok (unlessNf p (k.setFlags (opBits p) vc) (s.setReg r (insertLow (opBits p) (s.reg r) vc.1)))

theorem stepBody_eq_stepRegister (k : Step1) (r : Reg) (p : Pfx) (s : State) :
    stepBody k r p s = stepRegister k 1 r p s := by
  simp only [stepRegister, Step1.repeated, apply_low (opBits_pos p) (opBits_le p)]
  rfl

theorem registerStepForms_means (p : Pfx) (cnt : BitVec 3) : ∀ e ∈ registerSteps ++ quickRegisterSteps,
    Means (e.2.2.2 p cnt) p fun _ _ =>
      withWidth p (if e.2.2.1 then quickRegBody e.1 e.2.1 p cnt else stepBody e.1 e.2.1 p) := by
  simp only [registerSteps, quickRegisterSteps, List.forall_mem_append, List.forall_mem_cons, List.not_mem_nil,
    false_implies, implies_true, and_true]
  and_intros
  all_goals exact ⟨rfl, fun _ => rfl⟩

/-- Steps on a register replace its low `n` bits (R7, R255, R474). -/
theorem stepRegister_eq {k : Step1} {t : Nat} {r : Reg} {p : Pfx} {s : State} (hn : opBits p ≤ s.w) :
    let n := opBits p
    let q := steppedTimes k n t ((s.reg r).toNat % 2 ^ n, s.sr.c)
    stepRegister k t r p s = .ok
      { s.setReg r (word (replaced n (s.reg r).toNat q.1)) with sr := flagsStep k p.nf n q s.sr } := by
  intro n q
  have hlow : (low n (s.reg r)).toNat < 2 ^ n := low_lt _ _
  have hvalue : (k.repeated n t (low n (s.reg r)) s.sr.c).1.toNat = q.1 := by
    rw [repeated_eq_steppedTimes (opBits_pos p) (opBits_le p) k t _ hlow, low_toNat]
  have hcarry : (k.repeated n t (low n (s.reg r)) s.sr.c).2 = q.2 := by
    rw [repeated_carry (opBits_pos p) (opBits_le p) k t _ hlow, low_toNat]
  have hlt := repeated_lt (opBits_pos p) (opBits_le p) k t s.sr.c hlow
  have hinsert : insertLow n (s.reg r) (k.repeated n t (low n (s.reg r)) s.sr.c).1 =
      word (replaced n (s.reg r).toNat q.1) := by
    rw [← hvalue]
    exact loadInto_eq_word hn s.w_le .none (s.reg r) hlt
  refine congrArg Except.ok ((unlessNf_setFlags (opBits_pos p) hlt k p _).trans ?_)
  rw [hinsert, hvalue, hcarry, State.setReg_sr]

/-- Settles O30: a form of either list is its steps on the low bits of its register. -/
theorem registerStepsReplaceTheLowBits : Obligations.RegisterStepsReplaceTheLowBits := by
  intro k r quick mk hmk p cnt s i n q hr
  have h := registerStepForms_means p cnt _ hmk
  have hreg : (past i s).reg r = s.reg r := State.setPc_reg ..
  have hsteps : (if quick then quickRegBody k r p cnt else stepBody k r p) (past i s) =
      stepRegister k (if quick then cnt.toNat + 1 else 1) r p (past i s) := by
    cases quick with
    | true => rfl
    | false => exact stepBody_eq_stepRegister ..
  have hbody := hsteps.trans (stepRegister_eq (h.opBits_le hr))
  rw [hreg] at hbody
  exact h.exec_eq_next_of_ready (g := fun _ _ => if quick then quickRegBody k r p cnt else stepBody k r p) hr hbody

end Sys2Proof.Machine
end

section
/-! TSB and TRB (R375, R376, R518, R519). -/

namespace Sys2Proof.Machine

open Sys2Proof.Claims

/-- After the fetch, setting or clearing bits of memory that can be read and written completes (R375, R376). -/
theorem testBody_past_of_writable {i : Instr} {set : Bool} {f : Format} {p : Pfx} {op ea m : Word} {s : State}
    (hwf : s.mem.wf = true) (ha : effectiveAddress f p op (past i s) = .ok ea)
    (hread : memRead s (s.denv p) ea p.size.bytes = .ok m) :
    let v := if set then m ||| s.a else m &&& ~~~s.a
    let cells := upward ea (littleEndian p.size.bytes v.toNat)
    writable s (s.denv p) cells = true →
    ∃ m', testBody set f p op (past i s) = .ok { past i s with
        mem := m'
        sr := if p.nf then s.sr else { s.sr with z := decide ((s.a &&& m).toNat % 2 ^ opBits p = 0) } } ∧
      Stores s (s.denv p) cells m' := by
  intro v cells hw
  have hread' : memRead (past i s) ((past i s).denv p) ea p.size.bytes = .ok m := (memRead_past ..).trans hread
  obtain ⟨m', hwrite, hstores⟩ := memWrite_of_writable (s := past i s) hwf hw
  refine ⟨m', ?_, hstores⟩
  have hwrite' : memWrite (past i s) ((past i s).denv p) ea p.size.bytes
      (if set then m ||| (past i s).a else m &&& ~~~(past i s).a) = .ok { past i s with mem := m' } := hwrite
  simp only [testBody, ha, hread', hwrite', unlessNf, low_beq_zero]
  cases p.nf with
  | true => rfl
  | false => rfl

/-- Settles O31: every form of the list is one read and one write at its effective address. -/
theorem testAndSetOrResetBits : Obligations.TestAndSetOrResetBits := by
  intro set mk hmk p op s ea m hwf v cells hr ha hread hw
  have hmem := (GoodState.of_wellFormed hwf).memory.canonical
  have h := testForms_means p op _ hmk
  obtain ⟨m', hbody, hstores⟩ := testBody_past_of_writable hmem (h.address_eq s ▸ ha) hread hw
  exact ⟨m', h.exec_eq_next_of_ready hr hbody, hstores⟩

end Sys2Proof.Machine
end

section
/-! Flag instructions, NOP and the barriers (R380 to R387, R532, R533). -/

namespace Sys2Proof.Machine

open Sys2Proof.Claims

theorem flagForms_means (p : Pfx) (op : Word) : ∀ e ∈ flagForms, Means (e.2 p op) p fun _ _ => statusBody e.1 := by
  simp only [flagForms, List.forall_mem_cons, List.not_mem_nil, false_implies, implies_true, and_true]
  and_intros
  all_goals exact ⟨rfl, fun _ => rfl⟩

theorem barrierForms_means (p : Pfx) (op : Word) : ∀ e ∈ barrierForms, Means (e p op) p fun _ _ => barrierBody := by
  simp only [barrierForms, List.forall_mem_cons, List.not_mem_nil, false_implies, implies_true, and_true]
  and_intros
  all_goals exact ⟨rfl, fun _ => rfl⟩

/-- A row of the standard page without operand that lists none of the bits of R151 and R152. -/
structure IsBareByte (code : Byte) (p : Pfx) (i : Instr) : Prop where
  view : i.view =
    { row := { page := .std, code := code, format := .implied, takes := takesNone }, pfx := p, cnt := 0, op := 0 }

/-- Alone, such an instruction is its opcode byte (R150). -/
theorem IsBareByte.encode_eq {code : Byte} {i : Instr} (h : IsBareByte code .none i) (at_ : MvnfuCode) :
    encode at_ i = [code] := by
  have hcode : encodeCode at_ i.view = code := by
    rw [h.view]
    exact sysCode_of_ne_sys (pg := .std) (by decide) at_ code
  rw [encode, hcode, h.view]
  rfl

/-- All those bits must be at their defaults (R165). -/
theorem IsBareByte.wellFormed_iff {code : Byte} {p : Pfx} {i : Instr} (h : IsBareByte code p i) :
    i.wellFormed = true ↔ p.offset = .none ∧ p.size = .b8 ∧ p.am = false ∧ p.um = false ∧ p.extension .none = .none ∧
      p.nf = false := by
  simp only [Instr.wellFormed, Instr.prefixOk, Instr.operandOk, h.view, Row.admits, takesNone]
  simp [and_assoc, and_left_comm, and_comm]

/-- The opcode bytes of the flag instructions and NOP (R380 to R387). -/
theorem flagBytes_areBare (p : Pfx) : ∀ e ∈ ([(0x18, Instr.clc), (0x38, Instr.sec), (0x58, Instr.cli), (0x78, Instr.sei),
      (0xB8, Instr.clv), (0xD8, Instr.cld), (0xF8, Instr.sed), (0xEA, Instr.nop)] : List (Byte × (Pfx → Instr))),
    IsBareByte e.1 p (e.2 p) := by
  simp only [List.forall_mem_cons, List.not_mem_nil, false_implies, implies_true, and_true]
  and_intros
  all_goals exact ⟨rfl⟩

/-- Settles O32: one update of the status register or none; the encoding is read off the rows. -/
theorem flagInstructionsNopAndBarriers : Obligations.FlagInstructionsNopAndBarriers := by
  refine ⟨fun g mk hmk p op s hp => ?_, fun mk hmk p op s hp => ?_, fun code c hc at_ p => ⟨?_, ?_⟩⟩
  · exact (flagForms_means p op _ hmk).exec_eq_next hp rfl
  · exact (barrierForms_means p op _ hmk).exec_eq_next hp rfl
  · exact (flagBytes_areBare .none _ hc).encode_eq at_
  · exact (flagBytes_areBare p _ hc).wellFormed_iff

end Sys2Proof.Machine
end

section
/-! Branches and jumps, LEA and PEA (R400 to R410, R535, R536). -/

namespace Sys2Proof.Machine

open Sys2Proof.Claims

/-! ### Branches -/

/-- A branch tests the flags before the instruction. -/
theorem branches_hasBody (p : Pfx) (op : Word) : ∀ e ∈ branches,
    ∀ s, HasBody (e.2 p op) s (branchBody (e.1 s.sr) p op) := by
  simp only [branches, List.forall_mem_cons, List.not_mem_nil, false_implies, implies_true, and_true]
  and_intros
  all_goals exact fun _ => rfl

/-- A relative target is the sum of the pc and the two's complement offset, modulo `2^W` (R230). -/
theorem relativeTarget_eq_wrap (f : Format) (p : Pfx) (op : Word) (s : State) : relativeTarget f p op s =
    wrap s.w (s.pc.toNat + signed (8 * f.operandBytes p) (op.toNat % 2 ^ (8 * f.operandBytes p))) := by
  rw [← (denotes_relativeTarget f p op s).low_eq, relativeTarget, low_low]

theorem setPc_relativeTarget (f : Format) (p : Pfx) (op : Word) (s : State) :
    s.setPc (relativeTarget f p op s) = { s with pc := relativeTarget f p op s } := by
  rw [State.setPc, relativeTarget, low_low]

/-- A branch moves the pc or leaves the state as it is (R400). -/
theorem branchBody_eq (taken : Bool) (p : Pfx) (op : Word) (s : State) : branchBody taken p op s = .ok
    { s with pc := if taken then wrap s.w (s.pc.toNat + signed (opBits p) (op.toNat % 2 ^ opBits p)) else s.pc } := by
  rw [branchBody, setPc_relativeTarget, relativeTarget_eq_wrap]
  cases taken with
  | true => rfl
  | false => rfl

/-- Settles O36: every form of the list is one branch on its condition. -/
theorem branchesAreRelativeToTheNextInstruction : Obligations.BranchesAreRelativeToTheNextInstruction := by
  intro g mk hmk p op s hp
  exact exec_eq_next (branches_hasBody p op _ hmk s) hp (branchBody_eq (g s.sr) p op (past (mk p op) s))

/-! ### Addresses of `W` bits -/

theorem low_of_readPointer {env : Env} {f : Format} {p : Pfx} {ia v : Word} {s : State}
    (h : readPointer env f p ia s = .ok v) : low s.w v = v := by
  unfold readPointer at h
  split at h
  · cases h
  · cases h
    exact low_widenAddress ..

/-- An effective address that is not the register `E` is computed modulo `2^W` (R200). -/
theorem low_of_effectiveAddress {f : Format} {p : Pfx} {op ea : Word} {s : State}
    (hf : f ∉ [Format.eInd, .quickE, .zpE]) (h : effectiveAddress f p op s = .ok ea) : low s.w ea = ea := by
  cases f
  case eInd | quickE | zpE => simp at hf
  case zp | abs | zpX | absX | zpY | absY | quickZp | relAm | relWideAm =>
    cases h
    exact low_low ..
  case indZp | indAbs | qindZp | qindAbs | indZpX | indAbsX | qindZpX | qindAbsX => exact low_of_readPointer h
  case indZpY | indAbsY | qindZpY | qindAbsY =>
    unfold effectiveAddress at h
    dsimp only at h
    split at h
    · cases h
    · cases h
      exact low_low ..
  case implied | accum | imm | imm8 | rel | quickReg =>
    cases h
    exact low_eq_self (Nat.two_pow_pos _)

/-! ### JMP, LEA and PEA -/

theorem jumpBody_eq {f : Format} {p : Pfx} {op ea : Word} {s : State} (ha : effectiveAddress f p op s = .ok ea) :
    jumpBody f p op s = .ok (s.setPc ea) := by rw [jumpBody, ha]

/-- No form of LEA has `E` itself as its address (R535). -/
theorem leaForms_format_ne_e (p : Pfx) (op : Word) : ∀ mk ∈ leaForms,
    (mk p op).view.row.format ∉ [Format.eInd, .quickE, .zpE] := by
  simp only [leaForms, List.forall_mem_cons, List.not_mem_nil, false_implies, implies_true, and_true]
  and_intros
  all_goals exact of_decide_eq_true rfl

/-- An address of `W` bits is put in `E` as it is (R535). -/
theorem leaBody_eq {f : Format} {p : Pfx} {op ea : Word} {s : State} (ha : effectiveAddress f p op s = .ok ea)
    (hlow : low s.w ea = ea) :
    leaBody f p op s = .ok { s with e := ea, sr := flagsNZ p.nf s.w ea.toNat s.sr } := by
  rw [leaBody, ha]
  refine congrArg Except.ok ((unlessNf_setNZ s.w_pos (low_eq_self_iff.1 hlow) p _).trans ?_)
  rw [State.setReg, hlow]

theorem peaForms_write {p : Pfx} {op ea : Word} {s : State} (hgood : GoodState s.w s) {mk : Form} (hmk : mk ∈ peaForms)
    (hp : permitted (mk p op) s = true) (ha : address (mk p op) s = .ok ea)
    (hw : writable s (s.denv p) (downward (s.sp (s.denv p)) (bigEndian s.wBytes ea.toNat)) = true) :
    ∃ m, exec (mk p op) s =
        .next { (past (mk p op) s).setSp (s.denv p) (s.sp (s.denv p) - word s.wBytes) with mem := m } ∧
      Stores s (s.denv p) (downward (s.sp (s.denv p)) (bigEndian s.wBytes ea.toNat)) m := by
  have h := peaForms_means p op mk hmk
  obtain ⟨m, hpush, hstores⟩ := push_past_of_writable (i := mk p op) hgood.memory.canonical (hgood.sp_lt _) hw
  refine ⟨m, h.exec_eq_next hp ?_, hstores⟩
  rw [peaBody, (h.address_eq s).symm.trans ha]
  exact hpush

/-- Settles O37: the forms of each list find their address and then set the pc, load `E` or push. -/
theorem effectiveAddressIsJumpedToLoadedOrPushed : Obligations.EffectiveAddressIsJumpedToLoadedOrPushed := by
  refine ⟨fun mk hmk p op s ea hp ha => ?jump, fun mk hmk p op s ea hp ha => ?load,
    fun mk hmk p op s ea hwf hp ha hw => peaForms_write (.of_wellFormed hwf) hmk hp ha hw⟩
  case jump =>
    have h := jumps_means p op mk hmk
    exact h.exec_eq_next hp (jumpBody_eq (h.address_eq s ▸ ha))
  case load =>
    have h := leaForms_means p op mk hmk
    have ha' := h.address_eq s ▸ ha
    exact h.exec_eq_next hp (leaBody_eq ha' (low_of_effectiveAddress (leaForms_format_ne_e p op mk hmk) ha'))

end Sys2Proof.Machine
end

section
/-! Subroutine calls and their return (R411 to R414). -/

namespace Sys2Proof.Machine

open Sys2Proof.Claims

/-! ### JSR and BSR -/

/-- A call whose target is found and whose push can be written pushes the return address and goes to the target (R412). -/
theorem callTo_past_of_writable {i : Instr} {p : Pfx} {s : State} {target : Res Word} {t : Word} (hgood : GoodState s.w s)
    (hpfx : i.view.pfx = p) (hr : ready i s = true) (ht : target = .ok t) :
    let cells := downward (s.sp (s.denv p)) (bigEndian (returnBytes p) ((past i s).pc - 1).toNat)
    writable s (s.denv p) cells = true →
    ∃ m, callTo p target (past i s) = .ok
        { ((past i s).setSp (s.denv p) (s.sp (s.denv p) - word (returnBytes p))).setPc t with mem := m } ∧
      Stores s (s.denv p) cells m := by
  intro cells hw
  obtain ⟨m, hpush, hstores⟩ := push_past_of_writable (i := i) hgood.memory.canonical (hgood.sp_lt _) hw
  have hpush' : push (past i s) ((past i s).denv p) (returnBytes p) ((past i s).pc - 1) = _ := hpush
  refine ⟨m, ?_, hstores⟩
  unfold callTo
  rw [if_neg (returnBytes_le hpfx hr), ht]
  simp only [hpush']
  rfl

theorem relativeCalls_operand (p : Pfx) (op : Word) : ∀ mk ∈ relativeCalls, (mk p op).view.op = op := by
  simp only [relativeCalls, List.forall_mem_cons, List.not_mem_nil, false_implies, implies_true, and_true]
  exact ⟨rfl, rfl⟩

/-- What JSR and BSR share: each is one call, JSR to its effective address, BSR relative to the next instruction. -/
theorem calls_hasBody {mk : Form} {p : Pfx} {op t : Word} {s : State} {bits : Nat}
    (hbits : bits = 8 * (mk p op).view.row.format.operandBytes p)
    (ht : mk ∈ calls ∧ address (mk p op) s = .ok t ∨
      mk ∈ relativeCalls ∧ t = wrap s.w ((past (mk p op) s).pc.toNat + signed bits (op.toNat % 2 ^ bits))) :
    (mk p op).view.pfx = p ∧ ∃ target : State → Res Word, target (past (mk p op) s) = .ok t ∧
      HasBody (mk p op) s fun u => callTo p (target u) u := by
  rcases ht with ⟨hmk, ha⟩ | ⟨hmk, rfl⟩
  · have h := calls_means p op mk hmk
    exact ⟨h.pfx, _, h.address_eq s ▸ ha, h.body s⟩
  · have h := relativeCalls_means p op mk hmk
    refine ⟨h.pfx, fun u => .ok (relativeTarget (mk p op).view.row.format p (mk p op).view.op u), ?_, h.body s⟩
    rw [relativeCalls_operand p op mk hmk, hbits]
    exact congrArg Except.ok (relativeTarget_eq_wrap ..)

/-- Settles O38: both kinds of forms are one call; they differ in how the target is found. -/
theorem callsPushTheReturnAddress : Obligations.CallsPushTheReturnAddress := by
  intro mk p op s t hwf i k bits cells hr hw ht
  obtain ⟨hpfx, target, htarget, hbody⟩ := calls_hasBody (bits := bits) rfl ht
  have hk : k = returnBytes p := (returnBytes_eq p).symm
  simp only [cells, hk] at hw ⊢
  obtain ⟨m, hcall, hstores⟩ := callTo_past_of_writable (.of_wellFormed hwf) hpfx hr htarget hw
  exact ⟨m, exec_eq_next hbody (permitted_of_ready hr) hcall, hstores⟩

/-! ### RTS -/

/-- The address that RTS goes to, as RTS_EXT widens the `n`-bit return address (R414). -/
def State.returnTarget (s : State) (n v : Nat) : Int := (match s.cfg.rtsExt with
  | .sign => signed n v
  | .zero => (v : Int)) + 1

/-- RTS goes on after the return address that it pulls (R414). -/
theorem returnBody_eq {p : Pfx} {s : State} {ra : Word} (hn : ¬ s.w < 8 * returnBytes p)
    (hra : memRead s s.cur (s.sp s.cur + 1) (returnBytes p) = .ok ra) :
    returnBody p s = .ok { s.setSp s.cur (s.sp s.cur + word (returnBytes p)) with
      pc := wrap s.w (s.returnTarget (8 * returnBytes p) ra.toNat) } := by
  have hpos : 0 < returnBytes p := by
    unfold returnBytes
    cases p.size <;> decide
  have hlt := memRead_lt hra
  have hle := Nat.le_of_not_lt hn
  rw [returnBody, if_neg hn, pull_of_memRead hpos hra]
  refine congrArg Except.ok ?_
  rw [State.setPc, State.setSp_w, State.returnTarget]
  cases s.cfg.rtsExt with
  | sign => simp only [low_signExt_add_one hle s.w_le hlt]
  | zero => simp only [((s.denotes_toNat ra).low.add (s.denotes_toNat 1)).low_eq]; rfl

/-- Settles O39: RTS is one pull from the current stack and one write of the pc. -/
theorem returnGoesPastThePulledAddress : Obligations.ReturnGoesPastThePulledAddress := by
  intro p s ra k hr hra
  have hi : HasBody (.rts p) s (returnBody p) := rfl
  have hk : k = returnBytes p := (returnBytes_eq p).symm
  rw [hk] at hra ⊢
  exact exec_eq_next hi (permitted_of_ready hr)
    (returnBody_eq (returnBytes_le (p := p) rfl hr) ((memRead_past (.rts p) s s.cur _ _).trans hra))

end Sys2Proof.Machine
end

section
/-! Block moves and fills, one element a step (R540 to R543, R630 to R635). -/

namespace Sys2Proof.Machine

open Sys2Proof.Claims

/-! ### One step of a block instruction -/

theorem denotes_word (s : State) (n : Nat) : s.Denotes (word n) n := State.denotes_of_emod (by simp [word])

theorem denotes_neg_one (s : State) : s.Denotes (-1) (-1) := State.denotes_of_emod (by decide)

theorem one_le_toNat {a : Word} (ha : a ≠ 0) : (1 : Word).toNat ≤ a.toNat := Nat.pos_of_ne_zero (BitVec.toNat_ne_iff_ne.2 ha)

/-- A difference with nothing borrowed is that of the numbers. -/
theorem sub_word_eq {a : Word} {d : Nat} (h : d ≤ a.toNat) : a - word d = word (a.toNat - d) := by
  have hd : (word d).toNat = d := toNat_word_of_lt (Nat.le_refl 64) (Nat.lt_of_le_of_lt h a.isLt)
  apply BitVec.eq_of_toNat_eq
  rw [BitVec.toNat_sub_of_le (BitVec.le_def.2 (hd.symm ▸ h)), hd,
    toNat_word_of_lt (Nat.le_refl 64) (Nat.lt_of_le_of_lt (Nat.sub_le ..) a.isLt)]

/-- A block instruction whose count is 0 does nothing (R540). -/
theorem blockStep_of_zero {start dec : Word} {body : State → Res State} {s : State} (ha : s.a = 0) :
    blockStep start dec body s = .ok s := if_pos ha

/-- After the fetch, a step whose element completes counts it, and stays at the instruction until none is left (R540). -/
theorem blockStep_past_eq {i : Instr} {s t : State} {dec : Word} {body : State → Res State} (hgood : GoodState s.w s)
    (ha : s.a ≠ 0) (hdec : dec.toNat ≤ s.a.toNat) (hbody : body (past i s) = .ok t) (hw : t.w = s.w) :
    blockStep s.pc dec body (past i s) = .ok { t with a := s.a - dec, pc := if s.a = dec then t.pc else s.pc } := by
  have ha' : (past i s).a ≠ 0 := ha
  have hpc : low s.w s.pc = s.pc := low_eq_self (hgood.wide (by simp [State.wideRegisters]))
  have hcount : low s.w (s.a - dec) = s.a - dec := by
    refine low_eq_self (Nat.lt_of_le_of_lt ?_ (hgood.wide (v := s.a) (by simp [State.wideRegisters])))
    rw [BitVec.toNat_sub_of_le (BitVec.le_def.2 hdec)]
    exact Nat.sub_le ..
  have hset : t.setReg .a ((past i s).a - dec) = { t with a := s.a - dec } := by
    rw [State.setReg, hw]
    exact congrArg (fun v => { t with a := v }) hcount
  have hlast : s.a - dec = 0 ↔ s.a = dec := sub_eq_zero
  rw [blockStep, if_neg ha', hbody]
  simp only [hset, hlast]
  by_cases h : s.a = dec
  · simp only [if_pos h]
  · have hwt : State.w { t with a := s.a - dec } = s.w := hw
    simp only [if_neg h, State.setPc, hwt, hpc]

/-! ### Block moves -/

/-- The fetch leaves the mode, so it leaves the environments of a move. -/
theorem moveForms_envs_past (i : Instr) (s : State) : ∀ e ∈ moveForms,
    e.1 (past i s) = e.1 s ∧ e.2.1 (past i s) = e.2.1 s := by
  simp only [moveForms, List.forall_mem_cons, List.not_mem_nil, false_implies, implies_true, and_true]
  and_intros
  all_goals rfl

/-- After the fetch, a byte that can be read and written is copied, and both addresses step (R541, R542). -/
theorem moveByte_past_of_writable {i : Instr} {s : State} {src dst : Env} {v d : Word} {k : Int} (hm : s.mem.wf = true)
    (hd : s.Denotes d k) (hread : memRead s src s.x 1 = .ok v)
    (hw : writable s dst (upward s.y (littleEndian 1 v.toNat)) = true) :
    ∃ m, moveByte src dst d (past i s) =
        .ok { past i s with x := wrap s.w (s.x.toNat + k), y := wrap s.w (s.y.toNat + k), mem := m } ∧
      Stores s dst (upward s.y (littleEndian 1 v.toNat)) m := by
  have hread' : memRead (past i s) src (past i s).x 1 = .ok v := (memRead_past ..).trans hread
  obtain ⟨m, hwrite, hstores⟩ := memWrite_of_writable (s := past i s) hm hw
  have hwrite' : memWrite (past i s) dst (past i s).y 1 v = .ok { past i s with mem := m } := hwrite
  refine ⟨m, ?_, hstores⟩
  rw [← ((s.denotes_toNat s.x).add hd).low_eq, ← ((s.denotes_toNat s.y).add hd).low_eq, moveByte, hread']
  simp only [hwrite']
  rfl

/-- Settles O41: a move is one block step over one copied byte; its forms differ in environments and direction. -/
theorem blockMovesCopyOneByteAStep : Obligations.BlockMovesCopyOneByteAStep := by
  intro src dst up mk hmk p op s v hwf hp i d cells
  have hgood := GoodState.of_wellFormed hwf
  have hi := moveForms_means p op _ hmk s
  refine ⟨fun ha => exec_eq_next hi hp (blockStep_of_zero ha), fun ha hread hw => ?copy⟩
  case copy =>
    obtain ⟨hsrc, hdst⟩ : src (past i s) = src s ∧ dst (past i s) = dst s := moveForms_envs_past i s _ hmk
    have hd : s.Denotes (if up then 1 else -1) d := by
      cases up with
      | true => exact s.denotes_toNat 1
      | false => exact denotes_neg_one s
    obtain ⟨m, hmove, hstores⟩ := moveByte_past_of_writable (i := i) hgood.memory.canonical hd hread hw
    rw [← hsrc, ← hdst] at hmove
    exact ⟨m, exec_eq_next hi hp (blockStep_past_eq hgood ha (one_le_toNat ha) hmove rfl), hstores⟩

/-! ### Fills -/

/-- After the fetch, an element that can be written is written, and `X` steps over it (R543, R630). -/
theorem fillElement_past_of_writable {i : Instr} {s : State} {env : Env} {nb : Nat} (hm : s.mem.wf = true)
    (hw : writable s env (upward s.x (littleEndian nb s.y.toNat)) = true) :
    ∃ m, fillElement env nb (past i s) = .ok { past i s with x := wrap s.w (s.x.toNat + nb), mem := m } ∧
      Stores s env (upward s.x (littleEndian nb s.y.toNat)) m := by
  obtain ⟨m, hwrite, hstores⟩ := memWrite_of_writable (s := past i s) hm hw
  have hwrite' : memWrite (past i s) env (past i s).x nb (past i s).y = .ok { past i s with mem := m } := hwrite
  refine ⟨m, ?_, hstores⟩
  rw [← ((s.denotes_toNat s.x).add (denotes_word s nb)).low_eq, fillElement, hwrite']
  rfl

/-- One step of a fill with elements left (R540, R543, R630). -/
theorem fillStep_past_of_writable {i : Instr} {s : State} {env : Env} {nb : Nat} {dec : Word} (hgood : GoodState s.w s)
    (ha : s.a ≠ 0) (hdec : dec.toNat ≤ s.a.toNat)
    (hw : writable s env (upward s.x (littleEndian nb s.y.toNat)) = true) :
    ∃ m, blockStep s.pc dec (fillElement env nb) (past i s) =
        .ok { past i s with
          a := s.a - dec
          x := wrap s.w (s.x.toNat + nb)
          pc := if s.a = dec then (past i s).pc else s.pc
          mem := m } ∧
      Stores s env (upward s.x (littleEndian nb s.y.toNat)) m := by
  obtain ⟨m, hfill, hstores⟩ := fillElement_past_of_writable (i := i) hgood.memory.canonical hw
  exact ⟨m, blockStep_past_eq hgood ha hdec hfill rfl, hstores⟩

/-- By how much a step of FIL lowers its count, as FIL_COUNT_UNIT says (R543). -/
def fillCount (p : Pfx) (s : State) : Nat := if s.cfg.filUnit = .bytes then p.size.bytes else 1

/-- FIL with a count that it takes is one block step (R543). -/
theorem fillBody_eq_blockStep {start : Word} {p : Pfx} {s : State}
    (hunit : s.cfg.filUnit = .bytes → s.a.toNat % p.size.bytes = 0) :
    fillBody start p s = blockStep start (word (fillCount p s)) (fillElement s.cur p.size.bytes) s := by
  cases hu : s.cfg.filUnit with
  | elements =>
    simp only [fillBody, fillCount, hu]
    rfl
  | bytes =>
    simp only [fillBody, fillCount, hu, if_pos (hunit hu)]
    rfl

/-- A count that FIL takes and that is not 0 covers one step (R543). -/
theorem fillCount_le {p : Pfx} {s : State} (ha : s.a ≠ 0)
    (hunit : s.cfg.filUnit = .bytes → s.a.toNat % p.size.bytes = 0) : fillCount p s ≤ s.a.toNat := by
  rw [fillCount]
  split
  next hu => exact Nat.le_of_dvd (one_le_toNat ha) (Nat.dvd_of_mod_eq_zero (hunit hu))
  next => exact one_le_toNat ha

section Clauses

variable {p : Pfx} {s : State}

theorem fil_eq_blockStep (hr : ready (.fil p) s = true)
    (hunit : s.cfg.filUnit = .bytes → s.a.toNat % p.size.bytes = 0) :
    withWidth p (fillBody s.pc p) (past (.fil p) s) =
      blockStep s.pc (word (fillCount p s)) (fillElement s.cur p.size.bytes) (past (.fil p) s) :=
  (withWidth_of_ready hr _).trans (fillBody_eq_blockStep (s := past (.fil p) s) hunit)

theorem fil_of_zero (hr : ready (.fil p) s = true) (ha : s.a = 0) : exec (.fil p) s = .next (past (.fil p) s) := by
  have hunit : s.cfg.filUnit = .bytes → s.a.toNat % p.size.bytes = 0 := fun _ => by simp [ha]
  exact exec_eq_next (body := withWidth p (fillBody s.pc p)) rfl (permitted_of_ready hr)
    ((fil_eq_blockStep hr hunit).trans (blockStep_of_zero ha))

theorem fil_writes (hgood : GoodState s.w s) (hr : ready (.fil p) s = true) (ha : s.a ≠ 0)
    (hunit : s.cfg.filUnit = .bytes → s.a.toNat % p.size.bytes = 0)
    (hw : writable s s.cur (upward s.x (littleEndian p.size.bytes s.y.toNat)) = true) :
    ∃ m, exec (.fil p) s = .next
        { past (.fil p) s with
          a := word (s.a.toNat - fillCount p s)
          x := wrap s.w (s.x.toNat + p.size.bytes)
          pc := if s.a.toNat = fillCount p s then (past (.fil p) s).pc else s.pc
          mem := m } ∧
      Stores s s.cur (upward s.x (littleEndian p.size.bytes s.y.toNat)) m := by
  have hle := fillCount_le ha hunit
  have hdec : (word (fillCount p s)).toNat = fillCount p s :=
    toNat_word_of_lt (Nat.le_refl 64) (Nat.lt_of_le_of_lt hle s.a.isLt)
  have hlast : s.a = word (fillCount p s) ↔ s.a.toNat = fillCount p s := by rw [← BitVec.toNat_inj, hdec]
  obtain ⟨m, hstep, hstores⟩ := fillStep_past_of_writable (i := .fil p) hgood ha (hdec.trans_le hle) hw
  refine ⟨m, exec_eq_next (body := withWidth p (fillBody s.pc p)) rfl (permitted_of_ready hr) ?_, hstores⟩
  simp only [sub_word_eq hle, hlast] at hstep
  exact (fil_eq_blockStep hr hunit).trans hstep

end Clauses

/-- Settles O42: both are one block step over one written element; FIL's count is in elements or in bytes. -/
theorem fillsWriteOneElementAStep : Obligations.FillsWriteOneElementAStep := by
  intro p s hwf nb dec
  have hgood := GoodState.of_wellFormed hwf
  have hi : HasBody (.filu p) s (blockStep s.pc 1 (fillElement .user 1)) := rfl
  refine ⟨fil_of_zero, fil_writes hgood, fun hp ha => exec_eq_next hi hp (blockStep_of_zero ha),
    fun hp ha hw => ?fillUser⟩
  case fillUser =>
    obtain ⟨m, hstep, hstores⟩ := fillStep_past_of_writable (i := .filu p) hgood ha (one_le_toNat ha) hw
    exact ⟨m, exec_eq_next hi hp hstep, hstores⟩

end Sys2Proof.Machine
end

section
/-! TEA, TPA, TBA and the swaps (R586, R588, R591, R595 to R599). -/

namespace Sys2Proof.Machine

open Sys2Proof.Claims

theorem wholeTransfers_means (p : Pfx) (op : Word) : ∀ e ∈ wholeTransfers,
    Means (e.2 p op) p fun _ _ t => wholeTransfer .a p (e.1 t) t := by
  simp only [wholeTransfers, List.forall_mem_cons, List.not_mem_nil, false_implies, implies_true, and_true]
  and_intros
  all_goals exact ⟨rfl, fun _ => rfl⟩

theorem swaps_means (p : Pfx) (op : Word) : ∀ e ∈ swaps, Means (e.2.2 p op) p fun _ _ => swapBody e.1 e.2.1 := by
  simp only [swaps, List.forall_mem_cons, List.not_mem_nil, false_implies, implies_true, and_true]
  and_intros
  all_goals exact ⟨rfl, fun _ => rfl⟩

/-- What a whole transfer takes is a `W`-bit register. -/
theorem wholeTransfers_source_wide (s : State) : ∀ e ∈ wholeTransfers, e.1 s ∈ s.wideRegisters := by
  simp [wholeTransfers, State.wideRegisters]

/-- A `W`-bit value replaces the whole accumulator (R586). -/
theorem wholeTransfer_eq {v : Word} {s : State} (hv : v.toNat < 2 ^ s.w) (p : Pfx) :
    wholeTransfer .a p v s = .ok { s with a := v, sr := flagsNZ p.nf s.w v.toNat s.sr } := by
  rw [wholeTransfer, unlessNf_setNZ s.w_pos hv, State.setReg, low_eq_self hv]

theorem swapBody_past (q r : Reg) (i : Instr) (s : State) :
    swapBody q r (past i s) = .ok (((past i s).setReg q (s.reg r)).setReg r (s.reg q)) := by
  simp only [swapBody, past, State.setPc_reg]

/-- Settles O21: the transfers take a `W`-bit register after the fetch; the swaps exchange registers that the fetch leaves. -/
theorem wholeTransfersAndSwaps : Obligations.WholeTransfersAndSwaps := by
  refine ⟨fun src mk hmk p op s hwf hp => ?_, fun q r mk hmk p op s hp => ?_⟩
  · have hgood : GoodState s.w (past (mk p op) s) := (GoodState.of_wellFormed hwf).setPc _
    have hsrc := wholeTransfers_source_wide (past (mk p op) s) _ hmk
    exact (wholeTransfers_means p op _ hmk).exec_eq_next hp (wholeTransfer_eq (s := past (mk p op) s) (hgood.wide hsrc) p)
  · exact (swaps_means p op _ hmk).exec_eq_next hp (swapBody_past ..)

end Sys2Proof.Machine
end

section
/-! ADE, ADS, ADB, SBE, SBS and SBB (R258, R560 to R572). -/

namespace Sys2Proof.Machine

open Sys2Proof.Claims

/-! ### The register of a sum -/

/-- What an address sum works on: `E`, `B`, or with no register named the current stack pointer (R560, R563). -/
def State.sumReg (s : State) : Option Reg → Word
  | some q => s.reg q
  | none => s.sp s.cur

/-- The write to it. -/
def State.setSumReg (s : State) (d : Option Reg) (v : Word) : State := match d with
  | some q => s.setReg q v
  | none => s.setSp s.cur v

@[simp] theorem State.setSumReg_sr (s : State) (d : Option Reg) (v : Word) : (s.setSumReg d v).sr = s.sr := by
  cases d with
  | some q => exact State.setReg_sr ..
  | none => exact State.setSp_sr ..

theorem sumReg_past (d : Option Reg) (i : Instr) (s : State) : (past i s).sumReg d = s.sumReg d := by
  cases d with
  | some q => exact State.setPc_reg ..
  | none => exact State.setPc_sp ..

/-- `addrBody` and `stackAddrBody` in one. -/
def sumBody (d : Option Reg) (immediate sub : Bool) (p : Pfx) (m : Word) (s : State) : Res State := match d with
  | some q => addrBody q immediate sub p m s
  | none => stackAddrBody immediate sub p m s

theorem sumBody_eq_addrSum (d : Option Reg) (immediate sub : Bool) (p : Pfx) (m : Word) (s : State) :
    sumBody d immediate sub p m s =
      let q := addrSum immediate sub p (s.sumReg d) m s
      .ok (unlessNf p (setNVZC q.1 q.2) (s.setSumReg d (insertLow q.1 (s.sumReg d) q.2.r))) := by
  cases d with
  | some q => rfl
  | none => rfl

/-- Each form of the list adds or subtracts its immediate, or the accumulator. -/
theorem addressSums_means (p : Pfx) (op : Word) : ∀ e ∈ addressSums, Means (e.2.2 p op) p fun f _ => withWidth p fun t =>
    sumBody e.1 (decide (f = .imm)) e.2.1 p (low (opBits p) (if f = .imm then op else t.a)) t := by
  simp only [addressSums, List.forall_mem_cons, List.not_mem_nil, false_implies, implies_true, and_true]
  and_intros
  all_goals exact ⟨rfl, fun _ => rfl⟩

/-! ### The sum and what is committed -/

/-- LEeff of an address sum: only an immediate is extended (R560). -/
def sumExtension (immediate : Bool) (p : Pfx) : Extension := if immediate then p.extension .none else .none

/-- An address sum is a sum without a carry or a difference without a borrow, whatever the flags are (R258, R560). -/
theorem addrSum_eq {sub : Bool} {p : Pfx} {s : State} (hn : opBits p ≤ s.w) (immediate : Bool) (old m : Word) :
    let e := sumExtension immediate p
    let k := workWidth e (opBits p) s.w
    let l := old.toNat % 2 ^ k
    let r := extended (opBits p) s.w e (m.toNat % 2 ^ opBits p)
    addrSum immediate sub p old (low (opBits p) m) s =
      (k, { r := word (if sub then (l + 2 ^ k - r) % 2 ^ k else (l + r) % 2 ^ k)
            c := if sub then decide (r ≤ l) else decide (2 ^ k ≤ l + r)
            v := overflows k (if sub then signed k l - signed k r else signed k l + signed k r) }) := by
  intro e k l r
  have hk : 0 < k := workWidth_pos (opBits_pos p) s.w_pos _
  have hk64 : k ≤ 64 := Nat.le_trans (workWidth_le hn _) s.w_le
  have hr : (extend (opBits p) s.w e (low (opBits p) m)).toNat % 2 ^ k = r := by
    rw [extend_toNat hn s.w_le e (low_lt _ _), low_toNat]
    exact Nat.mod_eq_of_lt (extended_lt_workWidth hn e (Nat.mod_lt _ (Nat.two_pow_pos _)))
  refine Prod.ext rfl ?_
  cases sub with
  | true => exact (subC_eq hk hk64 rfl hr true).trans (by simp [l])
  | false => exact (addC_eq hk hk64 rfl hr false).trans (by simp [l])

/-- The four flags of a sum known as a number; NF keeps the flags (R258, R259). -/
theorem unlessNf_setNVZC {k v : Nat} {c : Bool} {exact : Int} (hk : 0 < k) (hk64 : k ≤ 64) (hv : v < 2 ^ k) (p : Pfx)
    (s : State) : unlessNf p (setNVZC k { r := word v, c := c, v := overflows k exact }) s =
      { s with sr := flagsNVZC p.nf k v c exact s.sr } := by
  have hnat : (word v).toNat = v := toNat_word_of_lt hk64 hv
  rw [unlessNf, setNVZC, setNZ_eq hk (hnat.symm ▸ hv), hnat]
  cases p.nf <;> rfl

/-- What is written to the low `k` bits of a register, as a number (R7). -/
theorem insertLow_eq_word (k : Nat) (old v : Word) : insertLow k old v = word (replaced k old.toNat (v.toNat % 2 ^ k)) := by
  rw [← word_toNat_eq (insertLow k old v), insertLow_toNat, replaced]

/-- A sum that is known as a number is committed to its register and the flags (R560). -/
theorem sumBody_of_addrSum {d : Option Reg} {immediate sub : Bool} {p : Pfx} {m : Word} {s : State} {k v : Nat} {c : Bool}
    {exact : Int} (hk : 0 < k) (hk64 : k ≤ 64) (hv : v < 2 ^ k)
    (hsum : addrSum immediate sub p (s.sumReg d) m s = (k, { r := word v, c := c, v := overflows k exact })) :
    sumBody d immediate sub p m s = .ok
      { s.setSumReg d (word (replaced k (s.sumReg d).toNat v)) with sr := flagsNVZC p.nf k v c exact s.sr } := by
  have hlow : (word v).toNat % 2 ^ k = v := by rw [toNat_word_of_lt hk64 hv, Nat.mod_eq_of_lt hv]
  rw [sumBody_eq_addrSum, hsum]
  dsimp only
  rw [insertLow_eq_word, hlow, unlessNf_setNVZC hk hk64 hv, State.setSumReg_sr]

/-- Settles O33: every form of the list is one address sum on its register, committed at the working width. -/
theorem addressSumsIgnoreCarryAndDecimal : Obligations.AddressSumsIgnoreCarryAndDecimal := by
  intro d sub mk hmk p op s _ hr i imm e k old l r t c sr
  have h := addressSums_means p op _ hmk
  have hn : opBits p ≤ s.w := h.opBits_le hr
  have hk : 0 < k := workWidth_pos (opBits_pos p) s.w_pos _
  have hk64 : k ≤ 64 := Nat.le_trans (workWidth_le hn _) s.w_le
  have ht : t < 2 ^ k := by
    cases sub with
    | true => exact Nat.mod_lt _ (Nat.two_pow_pos k)
    | false => exact Nat.mod_lt _ (Nat.two_pow_pos k)
  have hext : sumExtension (decide imm) p = e := by simp only [sumExtension, decide_eq_true_eq, e]
  have hold : (past i s).sumReg d = old := by
    rw [sumReg_past]
    cases d with
    | some q => rfl
    | none => rfl
  have hsum := addrSum_eq (sub := sub) (s := past i s) hn (decide imm) ((past i s).sumReg d) (if imm then op else s.a)
  rw [hext] at hsum
  have hbody := sumBody_of_addrSum hk hk64 ht (hold ▸ hsum)
  rw [hold] at hbody
  refine (h.exec_eq_next_of_ready hr hbody).trans ?_
  cases d with
  | some q => rfl
  | none => rfl

end Sys2Proof.Machine
end

section
/-! INV, EXT, SWP and BCN (R601 to R605). -/

namespace Sys2Proof.Machine

open Sys2Proof.Claims

/-! ### Replacing the low bits of the accumulator -/

/-- The commit of the accumulator operations: the low `k` bits are replaced, `N` and `Z` are those of the new bits. -/
theorem unlessNf_setNZ_insertLow {k v : Nat} {r : Word} {s : State} (hk : 0 < k) (hkw : k ≤ s.w) (ha : s.a.toNat < 2 ^ s.w)
    (hr : r.toNat % 2 ^ k = v) (p : Pfx) :
    unlessNf p (setNZ k r) (s.setReg .a (insertLow k s.a r)) =
      { s with a := word (replaced k s.a.toNat v), sr := flagsNZ p.nf k v s.sr } := by
  have hv : v < 2 ^ k := hr ▸ Nat.mod_lt _ (Nat.two_pow_pos k)
  have hfits : (word (replaced k s.a.toNat v)).toNat < 2 ^ s.w := by
    have hlt := replaced_lt hkw ha hv
    rwa [toNat_word_of_lt s.w_le hlt]
  rw [unlessNf_setNZ_mod hk, insertLow_eq_word, hr, State.setReg, low_eq_self hfits]

/-- At the whole width nothing of the old value stays. -/
theorem insertLow_eq_self {w : Nat} {old v : Word} (hold : old.toNat < 2 ^ w) (hv : v.toNat < 2 ^ w) :
    insertLow w old v = v := by
  rw [insertLow_eq_word, replaced, Nat.div_eq_of_lt hold, Nat.zero_mul, Nat.zero_add, Nat.mod_eq_of_lt hv, word_toNat_eq]

/-- Replacing the low bits by themselves changes nothing. -/
theorem insertLow_self (n : Nat) (v : Word) : insertLow n v v = v := by
  rw [insertLow_eq_word, replaced, Nat.div_add_mod', word_toNat_eq]

/-- An extension looks at the low `n` bits only (R252). -/
theorem extend_low (n w : Nat) (e : Extension) (v : Word) : extend n w e (low n v) = extend n w e v := by
  cases e with
  | none => exact low_low n v
  | zero => exact congrArg (low w) (low_low n v)
  | ones => rw [extend, extend, onesExt, low_low, onesExt]
  | sign =>
    have hnarrow : (low n v).setWidth n = v.setWidth n := by
      apply BitVec.eq_of_toNat_eq
      simp
    rw [extend, extend, signExt, hnarrow, signExt]

/-- The extension of the low `n` bits of a value, as a number. -/
theorem extend_toNat_mod {n w : Nat} (hn : n ≤ w) (hw : w ≤ 64) (e : Extension) (v : Word) :
    (extend n w e v).toNat = extended n w e (v.toNat % 2 ^ n) := by
  rw [← extend_low, extend_toNat hn hw e (low_lt n v), low_toNat]

/-- The same commit at width `W`, where nothing of the old value stays. -/
theorem unlessNf_setNZ_setReg {v : Nat} {r : Word} {s : State} (ha : s.a.toNat < 2 ^ s.w) (hv : v < 2 ^ s.w)
    (hr : r.toNat = v) (p : Pfx) :
    unlessNf p (setNZ s.w r) (s.setReg .a r) =
      { s with a := word (replaced s.w s.a.toNat v), sr := flagsNZ p.nf s.w v s.sr } := by
  have hmod : r.toNat % 2 ^ s.w = v := by rw [hr, Nat.mod_eq_of_lt hv]
  have hcommit := unlessNf_setNZ_insertLow s.w_pos (Nat.le_refl _) ha hmod p
  rwa [insertLow_eq_self ha (hr.symm ▸ hv)] at hcommit

/-! ### INV and EXT -/

/-- The negative at width `k`, as a number (R601). -/
theorem low_neg_toNat {k m : Nat} (hk : k ≤ 64) {v : Word} (hv : v.toNat % 2 ^ k = m) :
    (low k (0 - v)).toNat = (2 ^ k - m) % 2 ^ k := by
  have hneg : (0 - v).setWidth k = -(v.setWidth k) := by
    rw [show 0 - v = -v from BitVec.zero_sub v, BitVec.setWidth_neg_of_le hk]
  rw [low_toNat, ← BitVec.toNat_setWidth, hneg, BitVec.toNat_neg, BitVec.toNat_setWidth, hv]

section Extended

variable {p : Pfx} {s : State} (hn : opBits p ≤ s.w) (ha : s.a.toNat < 2 ^ s.w)
include hn ha

/-- INV negates the low `n` bits, or with LEeff other than 00 their extension over the whole register (R601). -/
theorem negateBody_eq :
    let e := p.extension .none
    let k := workWidth e (opBits p) s.w
    let v := (2 ^ k - extended (opBits p) s.w e (s.a.toNat % 2 ^ opBits p)) % 2 ^ k
    negateBody p s = .ok { s with a := word (replaced k s.a.toNat v), sr := flagsNZ p.nf k v s.sr } := by
  have hmod : ∀ t k : Nat, t % 2 ^ k < 2 ^ k := fun t k => Nat.mod_lt t (Nat.two_pow_pos k)
  have hwide : ∀ e, (low s.w (0 - extend (opBits p) s.w e s.a)).toNat =
      (2 ^ s.w - extended (opBits p) s.w e (s.a.toNat % 2 ^ opBits p)) % 2 ^ s.w := fun e =>
    low_neg_toNat s.w_le ((congrArg (· % _) (extend_toNat_mod hn s.w_le e s.a)).trans
      (Nat.mod_eq_of_lt (extended_lt hn e (hmod ..))))
  unfold negateBody
  cases p.extension .none with
  | none =>
    have hr := low_neg_toNat (opBits_le p) (v := s.a) rfl
    exact congrArg _ (unlessNf_setNZ_insertLow (opBits_pos p) hn ha (by rw [hr, Nat.mod_mod]; rfl) p)
  | sign | zero | ones => exact congrArg _ (unlessNf_setNZ_setReg ha (hmod ..) (hwide _) p)

/-- EXT replaces the accumulator by the extension of its low `n` bits; with LEeff 00 these replace themselves (R602). -/
theorem extendBody_eq :
    let e := p.extension .none
    let k := workWidth e (opBits p) s.w
    let v := extended (opBits p) s.w e (s.a.toNat % 2 ^ opBits p)
    extendBody p s = .ok { s with a := word (replaced k s.a.toNat v), sr := flagsNZ p.nf k v s.sr } := by
  have hlt : ∀ e, extended (opBits p) s.w e (s.a.toNat % 2 ^ opBits p) < 2 ^ s.w := fun e =>
    extended_lt hn e (Nat.mod_lt _ (Nat.two_pow_pos _))
  unfold extendBody
  cases p.extension .none with
  | none =>
    have hcommit := unlessNf_setNZ_insertLow (r := s.a) (opBits_pos p) hn ha rfl p
    rw [insertLow_self, State.setReg, low_eq_self ha] at hcommit
    exact congrArg _ hcommit
  | sign | zero | ones => exact congrArg _ (unlessNf_setNZ_setReg ha (hlt _) (extend_toNat_mod hn s.w_le _ s.a) p)

end Extended

/-- Settles O34: both bodies commit their value at the working width, from the accumulator that the fetch leaves. -/
theorem negateAndExtendTheAccumulator : Obligations.NegateAndExtendTheAccumulator := by
  intro p s hwf n e k m
  have ha : s.a.toNat < 2 ^ s.w := (GoodState.of_wellFormed hwf).wide (by simp [State.wideRegisters])
  have hinv : Means (.invA p) p fun _ _ => withWidth p (negateBody p) := ⟨rfl, fun _ => rfl⟩
  have hext : Means (.extA p) p fun _ _ => withWidth p (extendBody p) := ⟨rfl, fun _ => rfl⟩
  refine ⟨fun hr => ?_, fun hr => ?_⟩
  · exact hinv.exec_eq_next_of_ready hr (negateBody_eq (s := past (.invA p) s) (hinv.opBits_le hr) ha)
  · exact hext.exec_eq_next_of_ready hr (extendBody_eq (s := past (.extA p) s) (hext.opBits_le hr) ha)

/-! ### SWP and BCN -/

/-- A value below `2^n` replaces the low `n` bits of the accumulator (R603, R604). -/
theorem replaceLow_eq {p : Pfx} {v : Nat} {r : Word} {s : State} (hn : opBits p ≤ s.w) (ha : s.a.toNat < 2 ^ s.w)
    (hr : r.toNat = v) (hv : v < 2 ^ opBits p) :
    replaceLow p r s = { s with a := word (replaced (opBits p) s.a.toNat v), sr := flagsNZ p.nf (opBits p) v s.sr } :=
  unlessNf_setNZ_insertLow (opBits_pos p) hn ha (by rw [hr, Nat.mod_eq_of_lt hv]) p

/-- Exchanging the two `h`-bit halves of a number keeps it below the same bound. -/
theorem exchanged_lt {h v : Nat} (hv : v < 2 ^ h * 2 ^ h) : v % 2 ^ h * 2 ^ h + v / 2 ^ h < 2 ^ h * 2 ^ h := by
  have hlow : v % 2 ^ h < 2 ^ h := Nat.mod_lt _ (Nat.two_pow_pos h)
  have hhigh : v / 2 ^ h < 2 ^ h := Nat.div_lt_of_lt_mul hv
  have hmul : (v % 2 ^ h + 1) * 2 ^ h ≤ 2 ^ h * 2 ^ h := Nat.mul_le_mul_right _ hlow
  rw [Nat.add_mul, Nat.one_mul] at hmul
  omega

/-- The halves of an `n`-bit value exchanged, as a number (R603). -/
theorem swapHalves_toNat {n h : Nat} (hn : n = h + h) (h64 : n ≤ 64) (m : Word) :
    (swapHalves n m).toNat = m.toNat % 2 ^ n % 2 ^ h * 2 ^ h + m.toNat % 2 ^ n / 2 ^ h := by
  have hhalf : n / 2 = h := by omega
  have hpow : 2 ^ n = 2 ^ h * 2 ^ h := by rw [hn, Nat.pow_add]
  have hlow : m.toNat % 2 ^ n % 2 ^ h = m.toNat % 2 ^ h := Nat.mod_mod_of_dvd _ (Dvd.intro _ hpow.symm)
  have hhigh : m.toNat % 2 ^ n / 2 ^ h < 2 ^ h := Nat.div_lt_of_lt_mul (hpow ▸ Nat.mod_lt _ (Nat.two_pow_pos n))
  have hshift : m.toNat % 2 ^ h * 2 ^ h < 2 ^ n :=
    hpow ▸ Nat.mul_lt_mul_of_pos_right (Nat.mod_lt _ (Nat.two_pow_pos h)) (Nat.two_pow_pos h)
  have hshift64 := Nat.lt_of_lt_of_le hshift (Nat.pow_le_pow_right Nat.two_pos h64)
  rw [swapHalves, hhalf, BitVec.toNat_or, low_toNat, BitVec.toNat_shiftLeft, low_toNat, BitVec.toNat_ushiftRight, low_toNat,
    Nat.shiftLeft_eq, Nat.shiftRight_eq_div_pow, Nat.mod_eq_of_lt hshift64, Nat.mod_eq_of_lt hshift, hlow,
    Nat.mul_comm (m.toNat % 2 ^ h), ← Nat.two_pow_add_eq_or_of_lt hhigh]

/-- The number of one bits of an `n`-bit value (R604). -/
theorem popCount_eq_length (v : Word) : ∀ n, popCount n v = ((List.range n).filter fun j => v.getLsbD j).length
  | 0 => rfl
  | n + 1 => by
    rw [popCount, popCount_eq_length v n, List.range_succ, List.filter_append, List.length_append]
    cases h : v.getLsbD n with
    | true => simp [h]
    | false => simp [h]

theorem popCount_lt (n : Nat) (v : Word) : popCount n v < 2 ^ n := by
  rw [popCount_eq_length]
  calc ((List.range n).filter fun j => v.getLsbD j).length
    _ ≤ (List.range n).length := List.length_filter_le ..
    _ = n := List.length_range
    _ < 2 ^ n := Nat.lt_two_pow_self

/-- Counting replaces the low `n` bits of the accumulator by the number of one bits of a value (R604, R605). -/
theorem replaceLow_popCount {p : Pfx} {s : State} (hn : opBits p ≤ s.w) (ha : s.a.toNat < 2 ^ s.w) (m : Word) :
    let c := ((List.range (opBits p)).filter fun j => m.getLsbD j).length
    replaceLow p (BitVec.ofNat 64 (popCount (opBits p) m)) s =
      { s with a := word (replaced (opBits p) s.a.toNat c), sr := flagsNZ p.nf (opBits p) c s.sr } := by
  have hlt := popCount_lt (opBits p) m
  have hcount := toNat_word_of_lt (opBits_le p) hlt
  rw [popCount_eq_length] at hlt hcount ⊢
  exact replaceLow_eq hn ha hcount hlt

theorem countMemBody_eq {p : Pfx} {s : State} {m : Word} (hn : opBits p ≤ s.w) (ha : s.a.toNat < 2 ^ s.w)
    (hm : memRead s s.cur s.e p.size.bytes = .ok m) :
    let c := ((List.range (opBits p)).filter fun j => m.getLsbD j).length
    countMemBody p s = .ok
      { s with a := word (replaced (opBits p) s.a.toNat c), sr := flagsNZ p.nf (opBits p) c s.sr } := by
  rw [countMemBody, hm]
  exact congrArg _ (replaceLow_popCount hn ha m)

/-- Settles O35: all three replace the low `n` bits of the accumulator that the fetch leaves. -/
theorem swapHalvesAndCountBits : Obligations.SwapHalvesAndCountBits := by
  intro p s hwf n v h ones
  have ha : s.a.toNat < 2 ^ s.w := (GoodState.of_wellFormed hwf).wide (by simp [State.wideRegisters])
  have hswap : Means (.swpA p) p fun _ _ => withWidth p (swapBytesBody p) := ⟨rfl, fun _ => rfl⟩
  have hcount : Means (.bcnA p) p fun _ _ => withWidth p (countBody p) := ⟨rfl, fun _ => rfl⟩
  have hcountE : Means (.bcnE p) p fun _ _ => withWidth p (countMemBody p) := ⟨rfl, fun _ => rfl⟩
  refine ⟨fun hr => ?_, fun hr => ?_, fun m hr hm => ?_⟩
  · have hhalves : n = n / 2 + n / 2 := by simp only [n, opBits]; omega
    have hv : v < 2 ^ (n / 2) * 2 ^ (n / 2) := by
      rw [← Nat.pow_add, ← hhalves]
      exact Nat.mod_lt _ (Nat.two_pow_pos n)
    have hlt : h < 2 ^ n := by
      have hexchanged := exchanged_lt hv
      rwa [← Nat.pow_add, ← hhalves] at hexchanged
    exact hswap.exec_eq_next_of_ready hr (congrArg _ (replaceLow_eq (s := past (.swpA p) s) (hswap.opBits_le hr) ha
      (swapHalves_toNat hhalves (opBits_le p) s.a) hlt))
  · exact hcount.exec_eq_next_of_ready hr
      (congrArg _ (replaceLow_popCount (s := past (.bcnA p) s) (hcount.opBits_le hr) ha s.a))
  · have hread : memRead (past (.bcnE p) s) s.cur s.e p.size.bytes = .ok m := (memRead_past ..).trans hm
    exact hcountE.exec_eq_next_of_ready hr (countMemBody_eq (hcountE.opBits_le hr) ha hread)

end Sys2Proof.Machine
end

section
/-! The pc after reset (R741). -/

namespace Sys2Proof.Machine

open Sys2Proof.Claims

theorem sext16_eq_wrap (s : State) {v : Word} (hv : v.toNat < 2 ^ 16) : s.sext16 v = wrap s.w (signed 16 v.toNat) :=
  signExt_eq_wrap s.w_ge s.w_le hv

/-- A negative number down to `-2^W` stands `2^W` above itself. -/
theorem wrap_neg_toNat {w n : Nat} (hw : w ≤ 64) (h0 : 0 < n) (hn : n ≤ 2 ^ w) : (wrap w (-n)).toNat = 2 ^ w - n := by
  zify [hn]
  rw [wrap_toNat hw, ← Int.add_emod_right]
  have : (n : Int) ≤ 2 ^ w := by exact_mod_cast hn
  exact (Int.emod_eq_of_lt (by omega) (by omega)).trans (by ring)

/-- The two bytes of the reset vector stand at the sign extension of `$FFFC` and above it (R741). -/
theorem resetVector_addresses (s : State) : (s.sext16 0xFFFC).toNat = 2 ^ s.w - 4 ∧
    (low s.w (s.sext16 0xFFFC + 1)).toNat = 2 ^ s.w - 3 := by
  have hpow : 2 ^ 16 ≤ 2 ^ s.w := Nat.pow_le_pow_right (by decide) s.w_ge
  have h64 : 2 ^ s.w ≤ 2 ^ 64 := Nat.pow_le_pow_right (by decide) s.w_le
  have hfirst : (s.sext16 0xFFFC).toNat = 2 ^ s.w - 4 := by
    rw [sext16_eq_wrap s (by decide), show signed 16 (0xFFFC : Word).toNat = -(4 : Nat) by decide]
    exact wrap_neg_toNat s.w_le (by decide) (by omega)
  refine ⟨hfirst, ?_⟩
  rw [low_toNat, BitVec.toNat_add, hfirst, show (1 : Word).toNat = 1 from rfl, Nat.mod_eq_of_lt (by omega),
    Nat.mod_eq_of_lt (by omega)]
  omega

theorem ofBytes_pair_toNat (b c : Byte) : (ofBytes [b, c]).toNat = b.toNat + 256 * c.toNat := by
  have hlt := c.isLt
  have hsecond : (ofBytes [c]).toNat = c.toNat := by rw [ofBytes_cons_toNat]; simp [ofBytes]
  rw [ofBytes_cons_toNat, hsecond, Nat.mod_eq_of_lt (by omega)]

/-- Settles O6: the vector's two bytes stand at `2^W - 4` and `2^W - 3`, and their value is sign-extended. -/
theorem resetTakesThePcFromTheResetVector : Obligations.ResetTakesThePcFromTheResetVector := by
  intro s
  obtain ⟨hfirst, hsecond⟩ := resetVector_addresses s
  rw [← hfirst, ← hsecond, ← ofBytes_pair_toNat]
  exact sext16_eq_wrap s (ofBytes_lt _)

end Sys2Proof.Machine
end

section
/-! What the mode keeps from running, and JPU's way into user mode (R619, R625, R626, R703). -/

namespace Sys2Proof.Machine

open Sys2Proof.Claims

/-! ### PRIVOP -/

/-- What an instruction performs, as its row says: its aborts are taken from `s`, for JPU (abs) with `H` cleared. -/
theorem exec_eq_performFrom (i : Instr) (s : State) : ∃ undo body, (undo = s ∨ undo = s.setH false) ∧
    exec i s = performFrom undo i.view.row.page i.view.row.format i.view.pfx s body := by
  cases i
  case jpuIndAbs => exact ⟨_, _, .inr rfl, rfl⟩
  case smmu => exact ⟨_, fun t => refuse t .mmuBaseUndefined, .inl rfl, rfl⟩
  all_goals exact ⟨_, _, .inl rfl, rfl⟩

/-- In user mode clearing `H` changes nothing. -/
theorem setH_false_of_user {s : State} (hmode : s.isHyp = false) : s.setH false = s := by
  simp only [State.isHyp, Bool.or_eq_false_iff] at hmode
  obtain ⟨hh, hhyp⟩ := hmode
  simp only [State.setH, hhyp, Bool.false_or]
  rw [← hh]

/-- Settles O49: the check of the mode comes before the body, whatever the body is. -/
theorem privilegedInstructionsTakePrivopInUserMode : Obligations.PrivilegedInstructionsTakePrivopInUserMode := by
  intro i s hmode hpriv
  obtain ⟨undo, body, hundo, hexec⟩ := exec_eq_performFrom i s
  have hself : undo = s := hundo.elim id fun h => h.trans (setH_false_of_user hmode)
  rw [hexec, hself, performFrom, if_pos ⟨hpriv, hmode⟩]
  exact abortAnswer_eq_abortOf i s .privop

/-! ### JPU -/

section Jpu

variable {p : Pfx} {op t : Word} {s : State} (hhyp : s.cfg.hyp = true)
include hhyp

/-- Going to user mode at `t` clears `H` alone (R625). -/
theorem setH_false_setPc (i : Instr) : ((past i s).setH false).setPc t =
    { (past i s).setPc t with sr := { s.sr with h := false } } := by
  simp [State.setH, State.setPc, past, State.w, hhyp]

theorem enterUserBody_eq {i : Instr} (ht : effectiveAddress .abs p op (past i s) = .ok t) :
    enterUserBody p op (past i s) = .ok { (past i s).setPc t with sr := { s.sr with h := false } } := by
  rw [enterUserBody, if_neg (by simp [past, hhyp]), ht, ← setH_false_setPc hhyp]

/-- The pointer does not depend on the mode in which it is read (R626). -/
theorem enterUserIndirectBody_eq {i : Instr}
    (ht : readPointer .user .indAbs p (operandAddress .indAbs p op (past i s) + offsetValue p (past i s)) s = .ok t) :
    enterUserIndirectBody p op (past i s) = .ok { (past i s).setPc t with sr := { s.sr with h := false } } := by
  have hread := (readPointer_congr (s := s) (t := (past i s).setH false) rfl rfl rfl rfl rfl .user .indAbs p
    (operandAddress .indAbs p op (past i s) + offsetValue p (past i s))).trans ht
  rw [enterUserIndirectBody, if_neg (by simp [past, hhyp]), hread, ← setH_false_setPc hhyp]

end Jpu

/-- Settles O46: both forms go to user mode at the target found; only JPU (abs) takes its aborts in user mode. -/
theorem jpuEntersUserMode : Obligations.JpuEntersUserMode := by
  intro p op s t _ hhyp user
  refine ⟨fun hp ht => ?_, fun hp ht => ?_⟩
  · have hi : HasBody (.jpuAbs p op) s (enterUserBody p op) := rfl
    exact exec_eq_next hi hp (enterUserBody_eq hhyp ht)
  · have hi : exec (.jpuIndAbs p op) s = performFrom (s.setH false) .sys .indAbs p s (enterUserIndirectBody p op) := rfl
    have hfinish := hi.trans (performFrom_of_permitted hp (s.setH false) (enterUserIndirectBody p op))
    rw [hfinish, enterUserIndirectBody_eq hhyp ht]
    rfl

end Sys2Proof.Machine
end

section
/-! The frames that the entry sequences push, as lists of bytes (R39, R680, R682, R684). -/

namespace Sys2Proof.Machine

open Sys2Proof.Claims

/-! ### Sizes -/

theorem frameCode_eq_sizeCode (k : Nat) : frameCode k = sizeCode k := by
  unfold sizeCode
  split
  · rfl
  · rfl
  · next h2 h4 => rw [frameCode, if_neg h2, if_neg h4]

/-- An address is its own sign extension from `n` bits if it lies in the lowest or the highest `2^(n-1)` (R682). -/
theorem signExt_eq_self_iff {n w : Nat} (hn : 0 < n) (hw : n ≤ w) (h64 : w ≤ 64) {v : Word} (hv : v.toNat < 2 ^ w) :
    signExt n w v = v ↔ v.toNat < 2 ^ (n - 1) ∨ 2 ^ w - 2 ^ (n - 1) ≤ v.toNat := by
  have hhalf : 2 ^ n = 2 * 2 ^ (n - 1) := by rw [← Nat.pow_succ', Nat.succ_eq_add_one, Nat.sub_add_cancel hn]
  have hmod : v.toNat % 2 ^ n < 2 ^ n := Nat.mod_lt _ (Nat.two_pow_pos n)
  have hdiv := Nat.div_add_mod v.toNat (2 ^ n)
  obtain ⟨q, hq⟩ := Nat.pow_dvd_pow 2 hw
  rw [← BitVec.toNat_inj, signExt_toNat hw h64]
  rw [hq] at hv ⊢
  have hblock : v.toNat / 2 ^ n + 1 ≤ q := Nat.div_lt_of_lt_mul hv
  have hbelow := Nat.mul_le_mul_left (2 ^ n) hblock
  rw [Nat.mul_add] at hbelow
  split_ifs with htop
  · rcases hblock.eq_or_lt with hlast | hearlier
    · rw [← hlast, Nat.mul_add]
      omega
    · have htwo := Nat.mul_le_mul_left (2 ^ n) hearlier
      rw [Nat.succ_eq_add_one, Nat.mul_add, Nat.mul_add] at htwo
      omega
  · rcases (v.toNat / 2 ^ n).eq_zero_or_pos with hfirst | hlater
    · rw [hfirst] at hdiv
      omega
    · have hone := Nat.mul_le_mul_left (2 ^ n) hlater
      omega

/-- The size of a frame's address (R682). -/
theorem frameBytes_eq (c : Config) {ret : Word} (hret : ret.toNat < 2 ^ c.width.bits) :
    frameBytes c ret = frameSize c ret.toNat := by
  have h2 : (signExt 16 c.width.bits ret == ret) =
      decide (ret.toNat < 2 ^ 15 ∨ 2 ^ c.width.bits - 2 ^ 15 ≤ ret.toNat) := by
    rw [Bool.eq_iff_iff, beq_iff_eq, decide_eq_true_iff]
    exact signExt_eq_self_iff (by decide) (by cases c.width <;> decide) (by cases c.width <;> decide) hret
  have h4 : c.width = .w64 → (signExt 32 c.width.bits ret == ret) =
      decide (ret.toNat < 2 ^ 31 ∨ 2 ^ 64 - 2 ^ 31 ≤ ret.toNat) := fun hw => by
    rw [Bool.eq_iff_iff, beq_iff_eq, decide_eq_true_iff]
    rw [hw] at hret ⊢
    exact signExt_eq_self_iff (by decide) (by decide) (by decide) hret
  unfold frameBytes frameSize
  rw [h2]
  by_cases hw : c.width = .w64
  · rw [h4 hw]
  · simp [hw]

/-! ### Pushing a frame -/

/-- A push of two runs of bytes is one push after the other (R270). -/
theorem exists_pushBytes_of_append {env : Env} : ∀ {bs cs : List Byte} {s u : State},
    pushBytes s env (bs ++ cs) = .ok u → ∃ t, pushBytes s env bs = .ok t ∧ pushBytes t env cs = .ok u
  | [], cs, s, u, h => ⟨s, rfl, h⟩
  | b :: bs, cs, s, u, h => by
    rw [List.cons_append, pushBytes] at h
    rw [pushBytes]
    split at h
    · cases h
    · exact exists_pushBytes_of_append h

theorem push_byte (s : State) (env : Env) (b : Byte) : push s env 1 (b.setWidth 64) = pushBytes s env [b] := by
  simp [push, toBytes]

theorem push_eq_bigEndian (s : State) (env : Env) (k : Nat) (v : Word) :
    push s env k v = pushBytes s env (bigEndian k v.toNat) := by rw [push, toBytes_eq, bigEndian]

/-- A push none of whose cells aborts, and what it leaves in memory (R270). -/
theorem pushBytes_of_writable {s : State} {env : Env} {bs : List Byte} (hm : s.mem.wf = true)
    (hsp : (s.sp env).toNat < 2 ^ s.w) (hw : writable s env (downward (s.sp env) bs) = true) :
    ∃ m, Stores s env (downward (s.sp env) bs) m ∧
      pushBytes s env bs = .ok { s.setSp env (s.sp env - word bs.length) with mem := m } :=
  ⟨_, (stores_iff hm).2 rfl,
    pushBytes_of_writeCells_ok bs (.refl env s) (low_eq_self hsp).symm (writeCells_eq_landed s.mem hw)⟩

/-! ### The extended sequence -/

/-- The status byte that ends an extended frame, if there is one, with `B` as given (R680). -/
def statusPart (r : Status) : Option Bool → List Byte
  | none => []
  | some b => [BitVec.ofNat 8 (statusNumber r false b)]

/-- The frame that the extended sequence pushes (R680). -/
def entryFrame (s : State) (ret : Word) (status : Option Bool) : List Byte :=
  extendedFrame s ret.toNat ++ statusPart s.sr status

theorem entryFrame_none (s : State) (ret : Word) : entryFrame s ret none = extendedFrame s ret.toNat := List.append_nil _

theorem extendedFrame_eq (s : State) {ret : Word} (hret : ret.toNat < 2 ^ s.w) : extendedFrame s ret.toNat =
    bigEndian (frameBytes s.cfg ret) ret.toNat ++ [extendedByte s.isHyp s.prevHyp (frameCode (frameBytes s.cfg ret))] := by
  rw [extendedFrame, ← frameBytes_eq s.cfg hret, ← frameCode_eq_sizeCode, ← extendedByte_toNat, BitVec.ofNat_toNat,
    BitVec.setWidth_eq]

/-- Where the bytes of its frame are pushed, the extended sequence goes on to hypervisor mode (R680). -/
theorem enterExtended_of_pushBytes {s u : State} {ret : Word} (hret : ret.toNat < 2 ^ s.w) {status : Option Bool}
    (h : pushBytes (s.setSf (frameCode (frameBytes s.cfg ret))) s.cur (entryFrame s ret status) = .ok u) :
    enterExtended s ret status = .ok ((u.setP s.isHyp).setH true).unlink := by
  rw [entryFrame, extendedFrame_eq s hret] at h
  obtain ⟨s2, h, hstatus⟩ := exists_pushBytes_of_append h
  obtain ⟨s1, haddr, hext⟩ := exists_pushBytes_of_append h
  rw [← push_eq_bigEndian] at haddr
  rw [← push_byte] at hext
  simp only [enterExtended, haddr, hext]
  cases status with
  | none => cases hstatus; rfl
  | some b =>
    rw [statusPart, ← statusByte_toNat, BitVec.ofNat_toNat, BitVec.setWidth_eq, ← push_byte] at hstatus
    simp only [hstatus]

/-- What the extended sequence leaves (R680). -/
theorem enter_setSp_setSf (s : State) (env : Env) (sp : Word) (m : Memory) (k : Nat)
    (hmode : s.cfg.hyp = false → s.isHyp = true) :
    ((State.setP { (s.setSf (frameCode k)).setSp env sp with mem := m } s.isHyp).setH true).unlink =
      { s.setSp env sp with
        mem := m
        sr := { s.sr with h := true, p := s.isHyp, sf := sizeCode k }
        link := none } := by
  have hp : (s.isHyp || !s.cfg.hyp) = s.isHyp := by cases hhyp : s.cfg.hyp <;> simp [hmode, hhyp]
  cases env <;>
    simp only [State.setP, State.setH, State.unlink, State.setSp, State.setSf, State.w, frameCode_eq_sizeCode, hp, Bool.true_or]

/-- A complete extended sequence (R680). -/
theorem enterExtended_of_writable {s : State} (hgood : GoodState s.w s) {ret : Word} (hret : ret.toNat < 2 ^ s.w)
    (status : Option Bool) (hw : writable s s.cur (downward (s.sp s.cur) (entryFrame s ret status)) = true) :
    ∃ m, Stores s s.cur (downward (s.sp s.cur) (entryFrame s ret status)) m ∧
      enterExtended s ret status = .ok (entered s ret.toNat (entryFrame s ret status) m) := by
  obtain ⟨m, hstores, hpush⟩ := pushBytes_of_writable (s := s.setSf (frameCode (frameBytes s.cfg ret))) (env := s.cur)
    (bs := entryFrame s ret status) hgood.memory.canonical (hgood.sp_lt _) hw
  refine ⟨m, hstores, (enterExtended_of_pushBytes hret hpush).trans (congrArg _ ?_)⟩
  rw [enter_setSp_setSf _ _ _ _ _ isHyp_of_no_hyp, entered, ← frameBytes_eq s.cfg hret]
  rfl

/-! ### The 6502 compatible sequence -/

/-- A complete 6502 compatible sequence (R684, R686). -/
theorem enterCompat_of_writable {s : State} (hgood : GoodState s.w s) (ret : Word) (b : Bool)
    (hw : writable s s.cur (downward (s.sp s.cur) (compatFrame s ret.toNat b)) = true) :
    ∃ m, Stores s s.cur (downward (s.sp s.cur) (compatFrame s ret.toNat b)) m ∧
      enterCompat s ret b = .ok (enteredCompat s (compatFrame s ret.toNat b) m) := by
  obtain ⟨m, hstores, hpush⟩ := pushBytes_of_writable hgood.memory.canonical (hgood.sp_lt _) hw
  refine ⟨m, hstores, ?_⟩
  obtain ⟨s1, haddr, hstatus⟩ := exists_pushBytes_of_append hpush
  rw [← push_eq_bigEndian] at haddr
  rw [← statusByte_toNat, BitVec.ofNat_toNat, BitVec.setWidth_eq, ← push_byte] at hstatus
  simp only [enterCompat, haddr, hstatus, State.setI, State.unlink, enteredCompat, State.setSp_sr]

end Sys2Proof.Machine
end

section
/-! The vectors that the entry sequences read, and where they lead (R110 to R114, R665, R684 to R689). -/

namespace Sys2Proof.Machine

open Sys2Proof.Claims

/-! ### Reading a vector after the frame was pushed -/

/-- Whether a byte can be read does not depend on what memory holds (R127). -/
theorem exists_readBytes_set_mem {s : State} {env : Env} (m : Memory) : ∀ {k : Nat} {ea : Word} {bs : List Byte},
    readBytes s env ea k = .ok bs → ∃ cs, readBytes { s with mem := m } env ea k = .ok cs
  | 0, _, _, _ => ⟨[], rfl⟩
  | k + 1, ea, bs, h => by
    rw [readBytes] at h
    split at h
    · cases h
    · rename_i b hb
      split at h
      · cases h
      · rename_i bs' hbs
        obtain ⟨cs, hcs⟩ := exists_readBytes_set_mem m hbs
        have hbyte : ∃ c, readByte { s with mem := m } env ea .read = .ok c := by
          have hlocate : locate { s with mem := m } env ea .read = locate s env ea .read := locate_congr rfl rfl rfl rfl ..
          rw [readByte] at hb ⊢
          rw [hlocate]
          split at hb
          · cases hb
          · exact ⟨_, rfl⟩
          · exact ⟨_, rfl⟩
        obtain ⟨c, hc⟩ := hbyte
        have hrest : readBytes { s with mem := m } env (low (State.w { s with mem := m }) (ea + 1)) k = .ok cs := hcs
        exact ⟨c :: cs, by rw [readBytes, hc]; simp only [hrest]⟩

theorem exists_memRead_set_mem {s : State} {env : Env} {ea : Word} {k : Nat} (h : readable s env ea k = true) (m : Memory) :
    ∃ v, memRead { s with mem := m } env ea k = .ok v := by
  obtain ⟨v, hv⟩ := exists_of_readable h
  rw [memRead] at hv
  split at hv
  · cases hv
  · rename_i bs hbs
    obtain ⟨cs, hcs⟩ := exists_readBytes_set_mem m hbs
    have hcs' : readBytes { s with mem := m } env (low (State.w { s with mem := m }) ea) k = .ok cs := hcs
    exact ⟨ofBytes cs, by rw [memRead, hcs']⟩

/-! ### States after a frame was pushed -/

section Entered

variable (s : State) (ret : Nat) (frame : List Byte) (m : Memory)

@[simp] theorem entered_w : (entered s ret frame m).w = s.w := by simp [entered, State.w]

@[simp] theorem entered_cur : (entered s ret frame m).cur = .hyp := by simp [entered, State.cur, State.isHyp]

@[simp] theorem enteredCompat_w : (enteredCompat s frame m).w = s.w := by simp [enteredCompat, State.w]

@[simp] theorem enteredCompat_cur : (enteredCompat s frame m).cur = s.cur := by
  simp [enteredCompat, State.cur, State.isHyp]

theorem memRead_entered (env : Env) (ea : Word) (k : Nat) :
    memRead (entered s ret frame m) env ea k = memRead { s with mem := m } env ea k :=
  memRead_congr (s := { s with mem := m }) (t := entered s ret frame m) (by simp [entered]) (by simp [entered])
    (by simp [entered]) (by simp [entered]) rfl ..

theorem memRead_enteredCompat (env : Env) (ea : Word) (k : Nat) :
    memRead (enteredCompat s frame m) env ea k = memRead { s with mem := m } env ea k :=
  memRead_congr (s := { s with mem := m }) (t := enteredCompat s frame m) (by simp [enteredCompat])
    (by simp [enteredCompat]) (by simp [enteredCompat]) (by simp [enteredCompat]) rfl ..

end Entered

/-! ### Targets -/

/-- A table vector leads into the table's 64 kB block (R111 to R113). -/
theorem bankTarget_eq_inBlock (base : Word) {v : Word} (hv : v.toNat < 2 ^ 16) : bankTarget base v = inBlock base v := by
  have hbase : ((base >>> 16) <<< 16).toNat = base.toNat / 2 ^ 16 * 2 ^ 16 := by
    rw [BitVec.toNat_shiftLeft, BitVec.toNat_ushiftRight, Nat.shiftLeft_eq, Nat.shiftRight_eq_div_pow]
    exact Nat.mod_eq_of_lt (Nat.lt_of_le_of_lt (Nat.div_mul_le_self ..) base.isLt)
  have hsum : (bankTarget base v).toNat = base.toNat / 65536 * 65536 + v.toNat := by
    rw [show 65536 = 2 ^ 16 from rfl, bankTarget, low_eq_self hv, BitVec.toNat_or, hbase, Nat.mul_comm,
      ← Nat.two_pow_add_eq_or_of_lt hv, Nat.mul_comm]
  rw [inBlock, ← hsum, word_toNat_eq]

theorem low_inBlock {w : Nat} (h16 : 16 ≤ w) (h64 : w ≤ 64) {base v : Word} (hb : base.toNat < 2 ^ w)
    (hv : v.toNat < 2 ^ 16) : low w (inBlock base v) = inBlock base v := by
  have hblock : base.toNat / 65536 * 65536 + v.toNat < 2 ^ w := by
    obtain ⟨q, hq⟩ := Nat.pow_dvd_pow 2 h16
    rw [hq] at hb ⊢
    have hdiv : base.toNat / 2 ^ 16 + 1 ≤ q := Nat.div_lt_of_lt_mul hb
    omega
  exact low_eq_self ((toNat_word_of_lt h64 hblock).symm ▸ hblock)

theorem tableVector_of_memRead {t : State} {base addr v : Word} (h : memRead t .hyp addr 2 = .ok v) :
    tableVector t base addr = .ok (inBlock base v) := by
  rw [tableVector, h, ← bankTarget_eq_inBlock base (memRead_lt h)]

theorem singleVector_of_memRead {t : State} {env : Env} {addr v : Word} (h : memRead t env (t.sext16 addr) 2 = .ok v) :
    singleVector t env addr = .ok (signedTarget t v) := by
  rw [singleVector, h]
  exact congrArg _ (sext16_eq_wrap t (memRead_lt h))

theorem low_wrap {w : Nat} (hw : w ≤ 64) (v : Int) : low w (wrap w v) = wrap w v := by
  apply low_eq_self
  zify
  rw [wrap_toNat hw]
  exact Int.emod_lt_of_pos v (by positivity)

/-- The entry goes to what its vector gives, a table's under the table's base register, else the single one (R71, R665, R687). -/
def vectorTarget (s : State) (table : Bool) (base v : Word) : Word := if table then inBlock base v else signedTarget s v

theorem low_vectorTarget {s : State} (table : Bool) {base v : Word} (hb : base.toNat < 2 ^ s.w) (hv : v.toNat < 2 ^ 16) :
    low s.w (vectorTarget s table base v) = vectorTarget s table base v := by
  cases table with
  | true => exact low_inBlock s.w_ge s.w_le hb hv
  | false => exact low_wrap s.w_le _

end Sys2Proof.Machine
end

section
/-! Aborts, TRP and BRK (R660, R664 to R666, R680, R684, R687 to R689). -/

namespace Sys2Proof.Machine

open Sys2Proof.Claims

/-! ### Vectors -/

theorem sext16_of_signed (s : State) {v : Word} {n : Int} (h : v.toNat < 2 ^ 16 ∧ signed 16 v.toNat = n) :
    s.sext16 v = wrap s.w n := h.2 ▸ sext16_eq_wrap s h.1

/-- Where a table's vector or the single one leads, once it was read (R71, R110, R665, R687, R689). -/
theorem vector_of_memRead {t : State} {table : Bool} {base addr single v : Word} {env : Env}
    (h : memRead t (if table then .hyp else env) (if table then addr else t.sext16 single) 2 = .ok v) :
    (if table then tableVector t base addr else singleVector t env single) = .ok (vectorTarget t table base v) := by
  cases table with
  | true => exact tableVector_of_memRead h
  | false => exact singleVector_of_memRead h

section Entered

variable (s : State) (ret : Nat) (frame : List Byte) (m : Memory)

@[simp] theorem entered_iv : (entered s ret frame m).iv = s.iv := by simp [entered]
@[simp] theorem entered_av : (entered s ret frame m).av = s.av := by simp [entered]
@[simp] theorem entered_avAct : (entered s ret frame m).avAct = s.avAct := by simp [entered]
@[simp] theorem entered_tv : (entered s ret frame m).tv = s.tv := by simp [entered]
@[simp] theorem entered_tvAct : (entered s ret frame m).tvAct = s.tvAct := by simp [entered]
@[simp] theorem entered_sext16 (v : Word) : (entered s ret frame m).sext16 v = s.sext16 v := by simp [State.sext16]
@[simp] theorem enteredCompat_av : (enteredCompat s frame m).av = s.av := by simp [enteredCompat]
@[simp] theorem enteredCompat_avAct : (enteredCompat s frame m).avAct = s.avAct := by simp [enteredCompat]
@[simp] theorem enteredCompat_sext16 (v : Word) : (enteredCompat s frame m).sext16 v = s.sext16 v := by simp [State.sext16]

@[simp] theorem signedTarget_entered (v : Word) : signedTarget (entered s ret frame m) v = signedTarget s v := by
  simp [signedTarget]

@[simp] theorem signedTarget_enteredCompat (v : Word) : signedTarget (enteredCompat s frame m) v = signedTarget s v := by
  simp [signedTarget]

@[simp] theorem vectorTarget_entered (table : Bool) (base v : Word) :
    vectorTarget (entered s ret frame m) table base v = vectorTarget s table base v := by simp [vectorTarget]

@[simp] theorem vectorTarget_enteredCompat (table : Bool) (base v : Word) :
    vectorTarget (enteredCompat s frame m) table base v = vectorTarget s table base v := by simp [vectorTarget]

variable {s ret frame m} {table : Bool} {base addr single v : Word} {env : Env}

/-- A vector read after the extended sequence is read from the memory that the sequence leaves. -/
theorem vector_entered
    (h : memRead { s with mem := m } (if table then .hyp else env) (if table then addr else s.sext16 single) 2 = .ok v) :
    (if table then tableVector (entered s ret frame m) base addr else singleVector (entered s ret frame m) env single) =
      .ok (vectorTarget s table base v) := by
  rw [vector_of_memRead (v := v) (by rwa [memRead_entered, entered_sext16]), vectorTarget_entered]

theorem vector_enteredCompat
    (h : memRead { s with mem := m } (if table then .hyp else env) (if table then addr else s.sext16 single) 2 = .ok v) :
    (if table then tableVector (enteredCompat s frame m) base addr else singleVector (enteredCompat s frame m) env single) =
      .ok (vectorTarget s table base v) := by
  rw [vector_of_memRead (v := v) (by rwa [memRead_enteredCompat, enteredCompat_sext16]), vectorTarget_enteredCompat]

end Entered

/-- Going to a target of `W` bits. -/
theorem setPc_of_low {s t : State} {v : Word} (hw : t.w = s.w) (h : low s.w v = v) : t.setPc v = { t with pc := v } := by
  rw [State.setPc, hw, h]

/-! ### Aborts -/

/-- The address that an abort stacks (R666). -/
def abortReturn (s : State) (next : Word) : Word := match s.cfg.abortPc with
  | .instructionStart => s.pc
  | .nextInstruction => low s.w next

/-- A complete abort entry is the extended sequence and the read of the abort's vector (R665, R666). -/
theorem enterAbort_of_entered {s t : State} {next v : Word} {k : AbortKind}
    (henter : enterExtended s (abortReturn s next) (some false) = .ok t) (ht : abortTarget t k = .ok v) :
    enterAbort s next k = .ok (t.setPc v) := by
  unfold abortReturn at henter
  cases hpc : s.cfg.abortPc with
  | instructionStart =>
    rw [hpc] at henter
    simp only [enterAbort, hpc, henter, ht]
  | nextInstruction =>
    rw [hpc] at henter
    simp only [enterAbort, hpc, henter, ht]

/-- Settles O52: the frame is pushed by the extended sequence, and the vector read after it is the table's or the single one. -/
theorem abortEntryStacksAndEntersHypervisorMode : Obligations.AbortEntryStacksAndEntersHypervisorMode := by
  intro s next k offset hwf hnext hk ret frame vector hw hr
  have hgood := GoodState.of_wellFormed hwf
  have hpc : s.pc.toNat < 2 ^ s.w := hgood.wide (by simp [State.wideRegisters])
  have hnext' : low s.w next = next := low_eq_self ((fits_iff s next).1 hnext)
  have hret : (abortReturn s next).toNat = ret := by
    simp only [ret, abortReturn]
    cases s.cfg.abortPc with
    | instructionStart => rfl
    | nextInstruction => exact congrArg _ hnext'
  have hlt : (abortReturn s next).toNat < 2 ^ s.w := by
    rw [abortReturn]
    cases s.cfg.abortPc with
    | instructionStart => exact hpc
    | nextInstruction => exact low_lt ..
  have hoffset : k.offset = word offset := by
    simp only [List.mem_cons, Prod.mk.injEq, List.not_mem_nil, or_false] at hk
    rcases hk with ⟨rfl, rfl⟩ | ⟨rfl, rfl⟩ | ⟨rfl, rfl⟩ | ⟨rfl, rfl⟩ | ⟨rfl, rfl⟩ | ⟨rfl, rfl⟩ | ⟨rfl, rfl⟩ <;> rfl
  clear_value ret
  subst hret
  obtain ⟨m, hstores, henter⟩ := enterExtended_of_writable hgood hlt (some false) hw
  obtain ⟨v, hv⟩ := exists_memRead_set_mem hr m
  have hav : s.av.toNat < 2 ^ s.w := hgood.wide (by simp [State.wideRegisters])
  have htarget : abortTarget (entered s (abortReturn s next).toNat frame m) k = .ok (vectorTarget s s.avAct s.av v) := by
    rw [abortTarget, entered_avAct, entered_av, hoffset]
    exact vector_entered (by rwa [ite_self, sext16_of_signed s (n := -8) (by decide)])
  refine ⟨m, v, hstores, hv, ?_⟩
  rw [enterAbort_of_entered henter htarget, setPc_of_low (entered_w ..) (low_vectorTarget _ hav (memRead_lt hv))]
  rfl

/-! ### TRP -/

/-- A truncated predecessor is the integer's modulo `2^W`. -/
theorem low_sub_one_eq_wrap (s : State) (u : Word) : low s.w (u - 1) = wrap s.w (u.toNat - 1) := by
  rw [BitVec.sub_eq_add_neg]
  exact ((s.denotes_toNat u).add (denotes_neg_one s)).low_eq

theorem low_add_one_eq_wrap (s : State) (u : Word) : low s.w (u + 1) = wrap s.w (u.toNat + 1) :=
  ((s.denotes_toNat u).add (s.denotes_toNat 1)).low_eq

/-- The vector of trap `t` in an aligned table (R45, R687). -/
theorem trapVector_eq {base : Word} (hbase : low 9 base = 0) (t : Word) :
    base ||| (low 8 t <<< 1) = base + word (2 * (t.toNat % 256)) := by
  have hdvd : base.toNat = 2 ^ 9 * (base.toNat / 2 ^ 9) := by
    have hmod : base.toNat % 2 ^ 9 = 0 := low_toNat 9 base ▸ congrArg BitVec.toNat hbase
    omega
  have hlt : t.toNat % 256 < 256 := Nat.mod_lt _ (by decide)
  have hshift : (low 8 t <<< 1).toNat = 2 * (t.toNat % 256) := by
    rw [BitVec.toNat_shiftLeft, low_toNat, Nat.shiftLeft_eq]
    omega
  have hlow : 2 * (t.toNat % 256) < 2 ^ 9 := by omega
  have hsum : 2 ^ 9 * (base.toNat / 2 ^ 9) + 2 * (t.toNat % 256) < 2 ^ 64 := by
    have := base.isLt
    omega
  apply BitVec.eq_of_toNat_eq
  rw [BitVec.toNat_or, hshift, BitVec.toNat_add, toNat_word_of_lt (by decide : 9 ≤ 64) hlow, hdvd,
    ← Nat.two_pow_add_eq_or_of_lt hlow, Nat.mod_eq_of_lt hsum]

/-- Where the vector of a trap stands (R113, R687). -/
def trapVector (s : State) (t : Word) : Word := if s.tvAct then s.tv + word (2 * (t.toNat % 256)) else wrap s.w (-10)

theorem trapTarget_entered {s : State} (htv : low 9 s.tv = 0) {ret : Nat} {frame : List Byte} {m : Memory} {t v : Word}
    (h : memRead { s with mem := m } .hyp (trapVector s t) 2 = .ok v) :
    trapTarget (entered s ret frame m) t = .ok (vectorTarget s s.tvAct s.tv v) := by
  rw [trapVector] at h
  rw [trapTarget, entered_tvAct, entered_tv, trapVector_eq htv]
  exact vector_entered (by rwa [ite_self, sext16_of_signed s (n := -10) (by decide)])

/-- A complete trap (R687). -/
theorem takeTrap_of_writable {s : State} (hgood : GoodState s.w s) {t ret : Word} (ht : t.toNat % 256 < s.tmv.toNat)
    (hret : low s.w (s.pc - 1) = ret)
    (hw : writable s s.cur (downward (s.sp s.cur) (extendedFrame s ret.toNat)) = true)
    (hr : readable s .hyp (trapVector s t) 2 = true) :
    ∃ m v, Stores s s.cur (downward (s.sp s.cur) (extendedFrame s ret.toNat)) m ∧
      memRead { s with mem := m } .hyp (trapVector s t) 2 = .ok v ∧
      takeTrap t s = .ok { entered s ret.toNat (extendedFrame s ret.toNat) m with
        pc := vectorTarget s s.tvAct s.tv v } := by
  obtain ⟨-, -, haligned⟩ := hgood.aligned
  have htv : s.tv.toNat < 2 ^ s.w := hgood.wide (by simp [State.wideRegisters])
  rw [← entryFrame_none] at hw ⊢
  obtain ⟨m, hstores, henter⟩ := enterExtended_of_writable hgood (hret ▸ low_lt ..) none hw
  obtain ⟨v, hv⟩ := exists_memRead_set_mem hr m
  refine ⟨m, v, hstores, hv, ?_⟩
  rw [takeTrap, if_pos (by rwa [low_toNat]), hret, henter]
  simp only [trapTarget_entered haligned hv, asEntry]
  rw [setPc_of_low (entered_w ..) (low_vectorTarget _ htv (memRead_lt hv))]

/-- What the entry sequences leave after an instruction's fetch does not depend on the fetch but for the pc. -/
theorem entered_past (i : Instr) (s : State) (ret : Nat) (frame : List Byte) (m : Memory) (v : Word) :
    { entered (past i s) ret frame m with pc := v } = { entered s ret frame m with pc := v } := by
  have hcur : (past i s).cur = s.cur := rfl
  unfold entered
  rw [hcur]
  cases s.cur <;> rfl

/-- Settles O55: below `TMV` the trap is the extended sequence without a status byte, from the state after the fetch. -/
theorem trapEntryOrMaxtrap : Obligations.TrapEntryOrMaxtrap := by
  intro p op s hwf hp t ret cells vector
  have hi : HasBody (.trp p op) s (takeTrap op) := rfl
  have hgood : GoodState s.w (past (.trp p op) s) := (GoodState.of_wellFormed hwf).setPc _
  refine ⟨fun ht hw hr => ?_, fun ht => ?_⟩
  · obtain ⟨m, v, hstores, hv, htrap⟩ := takeTrap_of_writable (s := past (.trp p op) s) hgood ht
      (low_sub_one_eq_wrap ..) hw hr
    refine ⟨m, v, hstores, hv, ?_⟩
    rw [exec_eq_next hi hp htrap, entered_past]
    rfl
  · refine exec_eq_abort hi hp (if_neg ?_)
    rw [low_toNat]
    exact Nat.not_lt_of_le ht

end Sys2Proof.Machine
end

section
/-! BRK and the three interrupt sequences (R676, R680, R684, R686, R689, R696). -/

namespace Sys2Proof.Machine

open Sys2Proof.Claims

/-! ### BRK -/

/-- The frame of BRK (R689). -/
def breakFrame (s : State) (ret : Word) : List Byte :=
  if s.ivAct then entryFrame s ret (some true) else compatFrame s ret.toNat true

/-- The state after BRK pushed its frame (R689). -/
def breakEntered (s : State) (ret : Word) (m : Memory) : State :=
  if s.ivAct then entered s ret.toNat (breakFrame s ret) m else enteredCompat s (breakFrame s ret) m

/-- Complete pushes of BRK's frame, in either sequence (R680, R684). -/
theorem enterBreak_of_writable {s : State} (hgood : GoodState s.w s) {ret : Word} (hret : ret.toNat < 2 ^ s.w)
    (hw : writable s s.cur (downward (s.sp s.cur) (breakFrame s ret)) = true) :
    ∃ m, Stores s s.cur (downward (s.sp s.cur) (breakFrame s ret)) m ∧
      (if s.ivAct then enterExtended s ret (some true) else enterCompat s ret true) = .ok (breakEntered s ret m) := by
  unfold breakEntered
  unfold breakFrame at hw ⊢
  cases hact : s.ivAct with
  | true =>
    rw [hact] at hw
    exact enterExtended_of_writable hgood hret (some true) hw
  | false =>
    rw [hact] at hw
    exact enterCompat_of_writable hgood ret true hw

theorem breakEntered_w (s : State) (ret : Word) (m : Memory) : (breakEntered s ret m).w = s.w := by
  unfold breakEntered
  split
  · exact entered_w ..
  · exact enteredCompat_w ..

/-- The vector of BRK: the abort table's last, or the shared one (R689). -/
def breakVector (s : State) : Word := if s.avAct then s.av + 0xFE else wrap s.w (-2)

/-- Its environment: the shared one's is what is current after the frame (R114, R689; log entry 15). -/
def breakVectorEnv (s : State) : Env := if s.avAct ∨ s.ivAct then .hyp else s.cur

theorem breakTarget_breakEntered {s : State} {ret : Word} {m : Memory} {v : Word}
    (h : memRead { s with mem := m } (breakVectorEnv s) (breakVector s) 2 = .ok v) :
    breakTarget (breakEntered s ret m) = .ok (vectorTarget s s.avAct s.av v) := by
  have hsingle : s.sext16 0xFFFE = wrap s.w (-2) := sext16_of_signed s (by decide)
  rw [breakVector, breakVectorEnv] at h
  unfold breakEntered
  by_cases hact : s.ivAct = true
  · rw [if_pos hact, breakTarget, entered_avAct, entered_av, entered_cur]
    rw [if_pos (.inr hact)] at h
    exact vector_entered (by rwa [ite_self, hsingle])
  · have henv : (if s.avAct ∨ s.ivAct then Env.hyp else s.cur) = if s.avAct then .hyp else s.cur := by simp [hact]
    rw [if_neg hact, breakTarget, enteredCompat_avAct, enteredCompat_av, enteredCompat_cur]
    rw [henv] at h
    exact vector_enteredCompat (by rwa [hsingle])

/-- A complete BRK (R689). -/
theorem takeBreak_of_writable {s : State} (hgood : GoodState s.w s) {ret : Word} (hret : low s.w (s.pc + 1) = ret)
    (hw : writable s s.cur (downward (s.sp s.cur) (breakFrame s ret)) = true)
    (hr : readable s (breakVectorEnv s) (breakVector s) 2 = true) :
    ∃ m v, Stores s s.cur (downward (s.sp s.cur) (breakFrame s ret)) m ∧
      memRead { s with mem := m } (breakVectorEnv s) (breakVector s) 2 = .ok v ∧
      takeBreak s = .ok { breakEntered s ret m with pc := vectorTarget s s.avAct s.av v } := by
  have hav : s.av.toNat < 2 ^ s.w := hgood.wide (by simp [State.wideRegisters])
  obtain ⟨m, hstores, henter⟩ := enterBreak_of_writable hgood (hret ▸ low_lt ..) hw
  obtain ⟨v, hv⟩ := exists_memRead_set_mem hr m
  refine ⟨m, v, hstores, hv, ?_⟩
  rw [takeBreak, hret, henter]
  simp only [breakTarget_breakEntered hv, asEntry]
  rw [setPc_of_low (breakEntered_w ..) (low_vectorTarget _ hav (memRead_lt hv))]

theorem enteredCompat_past (i : Instr) (s : State) (frame : List Byte) (m : Memory) (v : Word) :
    { enteredCompat (past i s) frame m with pc := v } = { enteredCompat s frame m with pc := v } := by
  have hcur : (past i s).cur = s.cur := rfl
  unfold enteredCompat
  rw [hcur]
  cases s.cur <;> rfl

theorem breakEntered_past (i : Instr) (s : State) (ret : Word) (m : Memory) (v : Word) :
    { breakEntered (past i s) ret m with pc := v } = { breakEntered s ret m with pc := v } := by
  have hact : (past i s).ivAct = s.ivAct := rfl
  unfold breakEntered
  rw [hact]
  cases s.ivAct with
  | true => exact entered_past ..
  | false => exact enteredCompat_past ..

/-- Settles O56: BRK is one of the two sequences and the read of its vector, from the state after the fetch. -/
theorem breakEntry : Obligations.BreakEntry := by
  intro p s hwf hp ret frame cells env vector hw hr
  have hi : HasBody (.brk p) s takeBreak := rfl
  have hgood : GoodState s.w (past (.brk p) s) := (GoodState.of_wellFormed hwf).setPc _
  obtain ⟨m, v, hstores, hv, hbreak⟩ := takeBreak_of_writable (s := past (.brk p) s) hgood (low_add_one_eq_wrap ..) hw hr
  refine ⟨m, v, hstores, hv, ?_⟩
  rw [exec_eq_next hi hp hbreak, breakEntered_past]
  rfl

/-! ### Interrupts -/

/-- Accepting interrupt `k` and going on at its target (R673, R676, R717). -/
theorem resume_setPc_acknowledge {s t : State} {k : Nat} {v : Word} (hw : t.w = s.w) (hv : low s.w v = v)
    (hnmi : t.nmiPend = s.nmiPend) : ((acknowledge t k).setPc v).resume = { t with
      pc := v
      eim := BitVec.ofNat 3 (k - 1)
      nmiPend := s.nmiPend && decide (k ≠ 0)
      run := .running } := by
  have hbit : (k != 0) = decide (k ≠ 0) := by cases k <;> rfl
  have hlow : low (acknowledge t k).w v = v := by rw [← hv, ← hw]; exact low_low ..
  simp only [State.resume, State.setPc, hlow]
  simp only [acknowledge, hnmi, hbit]

/-- A complete entry through the interrupt table (R696). -/
theorem enterVectored_of_writable {s : State} (hgood : GoodState s.w s) (k : Nat)
    (hw : writable s s.cur (downward (s.sp s.cur) (entryFrame s s.pc (some false))) = true)
    (hr : readable s .hyp (s.iv + word (2 * k)) 2 = true) :
    ∃ m v, Stores s s.cur (downward (s.sp s.cur) (entryFrame s s.pc (some false))) m ∧
      memRead { s with mem := m } .hyp (s.iv + word (2 * k)) 2 = .ok v ∧
      enterVectored s k = .ok { entered s s.pc.toNat (entryFrame s s.pc (some false)) m with
        pc := inBlock s.iv v
        eim := BitVec.ofNat 3 (k - 1)
        nmiPend := s.nmiPend && decide (k ≠ 0)
        run := .running } := by
  have hpc : s.pc.toNat < 2 ^ s.w := hgood.wide (by simp [State.wideRegisters])
  have hiv : s.iv.toNat < 2 ^ s.w := hgood.wide (by simp [State.wideRegisters])
  obtain ⟨m, hstores, henter⟩ := enterExtended_of_writable hgood hpc (some false) hw
  obtain ⟨v, hv⟩ := exists_memRead_set_mem hr m
  refine ⟨m, v, hstores, hv, ?_⟩
  generalize ht : entered s s.pc.toNat (entryFrame s s.pc (some false)) m = t at henter ⊢
  have htarget : tableVector t t.iv (t.iv + BitVec.ofNat 64 (2 * k)) = .ok (inBlock s.iv v) := by
    rw [← ht, entered_iv]
    exact tableVector_of_memRead ((memRead_entered ..).trans hv)
  have hnmi : t.nmiPend = s.nmiPend := by simp [← ht, entered]
  rw [enterVectored, henter]
  simp only [htarget]
  rw [resume_setPc_acknowledge (ht ▸ entered_w ..) (low_inBlock s.w_ge s.w_le hiv (memRead_lt hv)) hnmi]

/-- Settles O53: with `IVACT` an interrupt that is not the user's own enters through the table. -/
theorem vectoredInterruptEntry : Obligations.VectoredInterruptEntry := by
  intro s k hwf _ hact huser frame vector hw hr
  obtain ⟨m, v, hstores, hv, henter⟩ := enterVectored_of_writable (.of_wellFormed hwf) k hw hr
  refine ⟨m, v, hstores, hv, ?_⟩
  rw [enterInterrupt, if_neg huser, if_pos hact, henter]
  rfl

/-- The vectors of the 6502 compatible sequence (R684). -/
theorem sext16_compatVector (s : State) (k : Nat) :
    s.sext16 (if k = 0 then 0xFFFA else 0xFFFE) = wrap s.w (if k = 0 then -6 else -2) := by
  split
  · exact sext16_of_signed s (by decide)
  · exact sext16_of_signed s (by decide)

/-- Settles O54: both clauses push the compatible frame; they differ in the vector and in what is acknowledged. -/
theorem compatibleAndUserInterruptEntry : Obligations.CompatibleAndUserInterruptEntry := by
  intro s k hwf _ cells user vector hw
  have hgood := GoodState.of_wellFormed hwf
  obtain ⟨m, hstores, henter⟩ := enterCompat_of_writable hgood s.pc false hw
  refine ⟨fun huser hact hr => ?_, fun huser hr => ?_⟩
  · obtain ⟨v, hv⟩ := exists_memRead_set_mem hr m
    have htarget : singleVector (enteredCompat s (compatFrame s s.pc.toNat false) m) s.cur
        (if k = 0 then 0xFFFA else 0xFFFE) = .ok (signedTarget s v) := by
      rw [singleVector_of_memRead (v := v) (by rwa [enteredCompat_sext16, sext16_compatVector, memRead_enteredCompat]),
        signedTarget_enteredCompat]
    refine ⟨m, v, hstores, hv, ?_⟩
    rw [enterInterrupt, if_neg huser, if_neg (by simp [hact]), enterCompatInterrupt, henter]
    simp only [enteredCompat_cur, htarget]
    rw [resume_setPc_acknowledge (s := s) (v := signedTarget s v) (enteredCompat_w ..) (low_wrap s.w_le _)
      (by simp [enteredCompat])]
  · obtain ⟨v, hv⟩ := exists_memRead_set_mem hr m
    have hlt : v.toNat < 2 ^ s.w := Nat.lt_of_lt_of_le (memRead_lt hv) (Nat.pow_le_pow_right (by decide) s.w_ge)
    have hread := (memRead_enteredCompat s (compatFrame s s.pc.toNat false) m .user 0xFFFE 2).trans hv
    refine ⟨m, v, hstores, hv, ?_⟩
    rw [enterInterrupt, if_pos huser, enterUserInterrupt, henter]
    simp only [hread]
    rw [setPc_of_low (enteredCompat_w ..) (low_eq_self hlt)]
    rfl

end Sys2Proof.Machine
end

section
/-! A frame read back where it was pushed, on a machine without containers and vacant addresses (R104, R270). -/

namespace Sys2Proof.Machine

open Sys2Proof.Claims

/-! ### Addresses below the stack pointer -/

theorem word_add (i j : Nat) : word (i + j) = word i + word j := BitVec.ofNat_add ..

/-- What is added to a truncated address does not see the truncation. -/
theorem low_add_congr {n : Nat} (hn : n ≤ 64) {u v : Word} (h : low n u = low n v) (d : Word) :
    low n (u + d) = low n (v + d) := by
  rw [← low_low_add n u d hn, h, low_low_add n v d hn]

/-- Fewer than `2^W` bytes lie at different addresses below one. -/
theorem low_sub_word_injective {n i j : Nat} (hn : n ≤ 64) (hi : i < 2 ^ n) (hj : j < 2 ^ n) {sp : Word}
    (h : low n (sp - word i) = low n (sp - word j)) : i = j := by
  have hself : ∀ k, k < 2 ^ n → (low n (word k)).toNat = k := fun k hk => by
    rw [low_toNat, toNat_word_of_lt hn hk, Nat.mod_eq_of_lt hk]
  have hswap := low_add_congr hn h (word i + word j - sp)
  rw [show sp - word i + (word i + word j - sp) = word j by abel,
    show sp - word j + (word i + word j - sp) = word i by abel] at hswap
  rw [← hself i hi, ← hself j hj, hswap]

theorem downward_getElem? (sp : Word) (bs : List Byte) (j : Nat) :
    (downward sp bs)[j]? = bs[j]?.map fun b => (sp - word j, b) := List.getElem?_mapIdx

theorem bigEndian_length (k n : Nat) : (bigEndian k n).length = k := by simp [bigEndian, littleEndian]

/-- Digit `j` of a number stands `j` places before the last of its bytes (R270). -/
theorem bigEndian_getElem? {k j : Nat} (n : Nat) (hj : j < k) :
    (bigEndian k n)[k - 1 - j]? = some (BitVec.ofNat 8 (n / 256 ^ j)) := by
  have hlength : (littleEndian k n).length = k := by simp [littleEndian]
  rw [bigEndian, List.getElem?_reverse (by omega), hlength, show k - 1 - (k - 1 - j) = j by omega]
  simp [littleEndian, hj]

/-! ### Memory after a push -/

/-- A byte at an address where nothing else landed. -/
theorem byteAfter_of_unique (m : Memory) {ws : List (Nat × Byte)} {q : Nat} {b : Byte} (hmem : (q, b) ∈ ws)
    (hunique : ∀ c ∈ ws, c.1 = q → c.2 = b) : byteAfter m ws q = b := by
  unfold byteAfter
  split
  · next c hc =>
    exact hunique c (List.mem_reverse.1 (List.mem_of_find?_eq_some hc)) (by simpa using List.find?_some hc)
  · next hnone =>
    have := List.find?_eq_none.1 hnone (q, b) (List.mem_reverse.2 hmem)
    simp at this

section Bare

variable {s : State} (hcont : s.cfg.ncont = 0) (hvacant : s.cfg.vacant = [])
include hcont hvacant

/-- Every address is its own physical address (R102, R129). -/
theorem locate_of_bare (env : Env) (ea : Word) (kind : Access) : locate s env ea kind = .ok (some ea.toNat) := by
  simp [locate, translate, State.isVacant, hcont, hvacant]

theorem writable_of_bare (env : Env) (cells : List (Word × Byte)) : writable s env cells = true := by
  simp [writable, locate_of_bare hcont hvacant]

theorem readByte_of_bare (env : Env) (ea : Word) (kind : Access) :
    readByte s env ea kind = .ok (s.mem.byteAt ea.toNat) := by simp [readByte, locate_of_bare hcont hvacant]

theorem exists_readBytes_of_bare (env : Env) : ∀ (k : Nat) (ea : Word), ∃ bs, readBytes s env ea k = .ok bs
  | 0, _ => ⟨[], rfl⟩
  | k + 1, ea => by
    obtain ⟨bs, hbs⟩ := exists_readBytes_of_bare env k (low s.w (ea + 1))
    exact ⟨_, by rw [readBytes, readByte_of_bare hcont hvacant, hbs]⟩

theorem readable_of_bare (env : Env) (ea : Word) (k : Nat) : readable s env ea k = true := by
  obtain ⟨bs, hbs⟩ := exists_readBytes_of_bare hcont hvacant env k (low s.w ea)
  simp [readable, memRead, hbs]

theorem landed_of_bare (env : Env) (cells : List (Word × Byte)) :
    landed s env cells = cells.map fun c => ((low s.w c.1).toNat, c.2) := by
  simp [landed, locate_of_bare hcont hvacant, List.filterMap_eq_map']

variable {env : Env} {sp : Word} {bs : List Byte} {m : Memory} (hstores : Stores s env (downward sp bs) m)
  (hlength : bs.length ≤ 2 ^ s.w)
include hstores hlength

/-- Each byte pushed is in memory where it was pushed (R270). -/
theorem byteAt_of_pushed {j : Nat} {b : Byte} (hj : bs[j]? = some b) : m.byteAt (low s.w (sp - word j)).toNat = b := by
  have hlt : ∀ {i c}, bs[i]? = some c → i < 2 ^ s.w := fun hi =>
    Nat.lt_of_lt_of_le (List.getElem?_eq_some_iff.1 hi).1 hlength
  rw [hstores.2, landed_of_bare hcont hvacant]
  refine byteAfter_of_unique _ (List.mem_map.2 ⟨(sp - word j, b), ?_, rfl⟩) fun d hd hq => ?_
  · exact List.mem_of_getElem? (by rw [downward_getElem?, hj, Option.map_some])
  · obtain ⟨c, hc, rfl⟩ := List.mem_map.1 hd
    obtain ⟨i, hi⟩ := List.mem_iff_getElem?.1 hc
    rw [downward_getElem?, Option.map_eq_some_iff] at hi
    obtain ⟨b', hb', rfl⟩ := hi
    obtain rfl := low_sub_word_injective s.w_le (hlt hb') (hlt hj) (BitVec.eq_of_toNat_eq hq)
    exact Option.some.inj (hb'.symm.trans hj)

/-- A number pushed most significant byte first is read back from above what was pushed after it (R104, R270). -/
theorem memRead_of_pushed {front back : List Byte} {k : Nat} {v : Word} (hbs : bs = front ++ bigEndian k v.toNat ++ back) :
    memRead { s with mem := m } env (sp - word bs.length + word (back.length + 1)) k = .ok (low (8 * k) v) := by
  have hbytes : readBytes { s with mem := m } env (low s.w (sp - word bs.length + word (back.length + 1))) k =
      .ok (littleEndian k v.toNat) := by
    refine (readBytes_littleEndian_iff { s with mem := m } env k v.toNat _).2 fun j hj => ?_
    have hat : bs[front.length + (k - 1 - j)]? = some (BitVec.ofNat 8 (v.toNat / 256 ^ j)) := by
      rw [hbs, List.append_assoc, List.getElem?_append_right (Nat.le_add_right ..), Nat.add_sub_cancel_left,
        List.getElem?_append_left (by rw [bigEndian_length]; omega), bigEndian_getElem? _ hj]
    have haddr : sp - word bs.length + word (back.length + 1) + word j = sp - word (front.length + (k - 1 - j)) := by
      have htotal : bs.length = front.length + (k - 1 - j) + (back.length + 1 + j) := by
        rw [hbs, List.length_append, List.length_append, bigEndian_length]
        omega
      rw [htotal, word_add _ (back.length + 1 + j), word_add _ j]
      abel
    rw [haddr, readByte_of_bare (s := { s with mem := m }) hcont hvacant]
    exact congrArg _ (byteAt_of_pushed hcont hvacant hstores hlength hat)
  rw [← ofBytes_toBytes, toBytes_eq]
  rw [memRead, show State.w { s with mem := m } = s.w from rfl, hbytes]

end Bare

end Sys2Proof.Machine
end

section
/-! RTU undoes TRP, and RTI a vectored interrupt: the frame that the entry pushed is the one that the return pulls (R39, R680,
R682, R687, R690 to R696). -/

namespace Sys2Proof.Machine

open Sys2Proof.Claims

/-! ### What a frame says -/

/-- A shortened return address is widened back to itself (R682, R691). -/
theorem signExt_frameBytes (c : Config) {ret : Word} (hret : ret.toNat < 2 ^ c.width.bits) :
    signExt (8 * frameBytes c ret) c.width.bits ret = ret := by
  have hbits : 8 * c.width.bytes = c.width.bits := by cases c.width <;> rfl
  have hle : c.width.bits ≤ 64 := by cases c.width <;> decide
  unfold frameBytes
  split_ifs with h2 h4
  · simp only [Bool.and_eq_true, beq_iff_eq] at h2
    exact h2.2
  · simp only [Bool.and_eq_true, beq_iff_eq] at h4
    exact h4.2
  · apply BitVec.eq_of_toNat_eq
    rw [hbits, signExt_toNat (Nat.le_refl _) hle, Nat.sub_self, Nat.add_zero, ite_self, Nat.mod_eq_of_lt hret]

theorem signExt_low {n : Nat} (hn : n ≤ 64) (w : Nat) (v : Word) : signExt n w (low n v) = signExt n w v := by
  simp [signExt, low, BitVec.setWidth_setWidth_of_le _ hn]

/-- The code in a frame is that of the size of its address (R39). -/
theorem sizeOfCode_frameBytes (s : State) (ret : Word) : frameCode (frameBytes s.cfg ret) ≠ 0 ∧
    sizeOfCode (frameCode (frameBytes s.cfg ret)) = frameBytes s.cfg ret ∧ frameBytes s.cfg ret ≤ s.wBytes := by
  rw [State.wBytes]
  rcases frameBytes_cases s.cfg ret with h | ⟨hw, h⟩ | h
  · rw [h]; cases s.cfg.width <;> decide
  · rw [h, hw]; decide
  · rw [h]; cases s.cfg.width <;> decide

/-- What the pull of an extended status byte reads in it (R28, R691). -/
theorem extendedByte_fields (h p : Bool) (sf : BitVec 2) : let x := low (8 * 1) ((extendedByte h p sf).setWidth 64)
    x.setWidth 2 = sf ∧ x.getLsbD 3 = h ∧ x.getLsbD 2 = p := by
  revert h p sf
  decide

/-- What the pull of a status byte reads in it (R28, R692). -/
theorem statusByte_fields (r : Status) : let x := low (8 * 1) ((statusByte r false false).setWidth 64)
    x.getLsbD 7 = r.n ∧ x.getLsbD 6 = r.v ∧ x.getLsbD 5 = false ∧ x.getLsbD 3 = r.d ∧ x.getLsbD 2 = r.i ∧
      x.getLsbD 1 = r.z ∧ x.getLsbD 0 = r.c := by
  obtain ⟨n, v, d, i, z, c, -, -, -⟩ := r
  simp only [statusByte]
  revert n v d i z c
  decide

/-- RTI takes the flags that the status byte was made of (R692). -/
theorem loadedFlags_statusByte (r q : Status) : loadedFlags r (low (8 * 1) ((statusByte q false false).setWidth 64)) =
    { r with n := q.n, v := q.v, d := q.d, i := q.i, z := q.z, c := q.c } := by
  obtain ⟨hn, hv, -, hd, hi, hz, hc⟩ := statusByte_fields q
  simp only [loadedFlags, hn, hv, hd, hi, hz, hc]

/-! ### After the extended sequence -/

theorem sp_entered (s : State) (ret : Nat) (frame : List Byte) (m : Memory) :
    (entered s ret frame m).sp s.cur = low s.w (s.sp s.cur - word frame.length) := by
  rw [← State.sp_setSp_same s s.cur, entered]
  cases s.cur <;> rfl

/-- Moving the stack pointer back leaves of the sequence its memory, its status and the lost reservation. -/
theorem setSp_entered {s : State} {sp : Word} (hsp : low s.w sp = s.sp s.cur) (ret : Nat) (frame : List Byte) (m : Memory) :
    (entered s ret frame m).setSp s.cur sp = { s with mem := m, sr := (entered s ret frame m).sr, link := none } := by
  unfold entered
  generalize s.cur = env at hsp ⊢
  cases env <;> simp only [State.setSp, State.w, State.sp] at hsp ⊢ <;> rw [hsp]

/-- `u` is what the extended sequence left of `s`, but for the pc, `EIM`, the NMI request and the run state. -/
structure AfterFrame (s : State) (ret : Word) (frame : List Byte) (m : Memory) (u : State) : Prop where
  eq : u = { entered s ret.toNat frame m with pc := u.pc, eim := u.eim, nmiPend := u.nmiPend, run := u.run }

section AfterFrame

variable {s u : State} {ret : Word} {frame : List Byte} {m : Memory} (h : AfterFrame s ret frame m u)
include h

theorem AfterFrame.past (i : Instr) : AfterFrame s ret frame m (past i u) := by
  refine ⟨?_⟩
  rw [Claims.past, State.setPc, h.eq]

theorem AfterFrame.cfg : u.cfg = s.cfg := by rw [h.eq]; simp [entered]

theorem AfterFrame.isHyp : u.isHyp = true := by rw [h.eq]; simp [State.isHyp, entered]

theorem AfterFrame.imr : u.imr = s.imr := by rw [h.eq]; simp [entered]

theorem AfterFrame.sr (hret : ret.toNat < 2 ^ s.w) :
    u.sr = { s.sr with h := true, p := s.isHyp, sf := frameCode (frameBytes s.cfg ret) } := by
  rw [h.eq, frameBytes_eq s.cfg hret, frameCode_eq_sizeCode]
  rfl

theorem AfterFrame.sp : u.sp s.cur = low s.w (s.sp s.cur - word frame.length) := by
  rw [← sp_entered s ret.toNat frame m, h.eq]
  cases s.cur <;> rfl

theorem AfterFrame.memRead_eq (env : Env) (ea : Word) (k : Nat) :
    memRead u env ea k = memRead { s with mem := m } env ea k := by
  have hsame := memRead_congr (s := entered s ret.toNat frame m) (t := u) (by rw [h.eq]) (by rw [h.eq]) (by rw [h.eq])
    (by rw [h.eq]) (by rw [h.eq]) env ea k
  exact hsame.trans (memRead_entered ..)

/-- The return pulls from the stack that the frame is on (R680, R690). -/
theorem AfterFrame.pullEnv : pullEnv u = s.cur := by
  have hmode : s.cfg.hyp = false → s.isHyp = true := isHyp_of_no_hyp
  have hprev : u.prevHyp = s.isHyp := by
    rw [State.prevHyp, h.cfg, h.eq]
    cases hhyp : s.cfg.hyp <;> simp [entered, hhyp, hmode]
  rw [Machine.pullEnv, h.isHyp, hprev, State.cur, Bool.true_and]

theorem AfterFrame.setSp_eq {sp : Word} (hsp : low s.w sp = s.sp s.cur) : u.setSp s.cur sp =
    { s with mem := m, sr := u.sr, link := none, pc := u.pc, eim := u.eim, nmiPend := u.nmiPend, run := u.run } := by
  have hentered := setSp_entered hsp ret.toNat frame m
  have hset : u.setSp s.cur sp = { (entered s ret.toNat frame m).setSp s.cur sp with
      pc := u.pc, eim := u.eim, nmiPend := u.nmiPend, run := u.run } := by
    rw [h.eq]
    cases s.cur <;> rfl
  rw [hset, hentered, h.eq]

end AfterFrame

/-- The mode bits that a return takes from the frame are those of the interrupted code, `P` cleared in user mode (R691). -/
theorem returnedMode (s : State) (hmode : s.cfg.hyp = false → s.sr.h = true ∧ s.sr.p = true) :
    ((s.cur != .user && s.isHyp) || !s.cfg.hyp) = s.sr.h ∧
      ((s.cur != .user && s.prevHyp) || !s.cfg.hyp) = (s.sr.p && s.isHyp) := by
  cases hhyp : s.cfg.hyp with
  | false =>
    obtain ⟨hh, hp⟩ := hmode hhyp
    simp [State.isHyp, hhyp, hh, hp]
  | true => cases hh : s.sr.h <;> simp [State.cur, State.isHyp, State.prevHyp, hhyp, hh]

end Sys2Proof.Machine
end

section
/-! The round trips: RTU after TRP, and RTI after a vectored interrupt (R687, R690 to R693, R696). -/

namespace Sys2Proof.Machine

open Sys2Proof.Claims

/-! ### Pulling the frame that was pushed -/

/-- The address that a return makes of a pulled one (R691, R692). -/
theorem returnTarget_eq (s : State) {ret : Word} (hret : ret.toNat < 2 ^ s.w) :
    wrap s.w (signed (8 * frameBytes s.cfg ret) (low (8 * frameBytes s.cfg ret) ret).toNat) = ret ∧
      wrap s.w (signed (8 * frameBytes s.cfg ret) (low (8 * frameBytes s.cfg ret) ret).toNat + 1) = low s.w (ret + 1) := by
  obtain ⟨-, -, hle⟩ := sizeOfCode_frameBytes s ret
  have hwidth : 8 * frameBytes s.cfg ret ≤ s.w := by rw [State.w_eq]; omega
  have hself : signExt (8 * frameBytes s.cfg ret) s.w (low (8 * frameBytes s.cfg ret) ret) = ret :=
    (signExt_low (Nat.le_trans hwidth s.w_le) ..).trans (signExt_frameBytes s.cfg hret)
  rw [← signExt_eq_wrap hwidth s.w_le (low_lt ..), ← low_signExt_add_one hwidth s.w_le (low_lt ..), hself]
  exact ⟨rfl, rfl⟩

/-- A whole frame is far smaller than the address space (R682). -/
theorem le_pow_width_of_le_frame (s : State) (ret : Word) {n : Nat} (h : n ≤ 2 + frameBytes s.cfg ret) : n ≤ 2 ^ s.w := by
  obtain ⟨-, -, hle⟩ := sizeOfCode_frameBytes s ret
  have hw8 : s.wBytes ≤ 8 := by rw [State.wBytes]; cases s.cfg.width <;> decide
  have hpow : 2 ^ 16 ≤ 2 ^ s.w := Nat.pow_le_pow_right (by decide) s.w_ge
  omega

/-- The extended status byte of a frame of `s`, as the return pulls it. -/
def pulledStatus (s : State) (ret : Word) : Word :=
  low (8 * 1) ((extendedByte s.isHyp s.prevHyp (frameCode (frameBytes s.cfg ret))).setWidth 64)

/-- On the user stack it says user mode, so no return raises PRIVRTI (R694). -/
theorem pulledStatus_allowed (s : State) (ret : Word) : ¬ (s.cur = .user ∧ (pulledStatus s ret).getLsbD 3 = true) := by
  obtain ⟨-, hh, -⟩ := extendedByte_fields s.isHyp s.prevHyp (frameCode (frameBytes s.cfg ret))
  rw [pulledStatus, hh]
  rintro ⟨huser, hhyp⟩
  simp [State.cur, hhyp] at huser

theorem bigEndian_one (b : Byte) : bigEndian 1 (b.setWidth 64).toNat = [b] := by
  rw [bigEndian, ← toBytes_eq]
  simp [toBytes]

section Pulled

variable {s u : State} {ret : Word} {frame : List Byte} {m : Memory} (h : AfterFrame s ret frame m u)
include h

/-- A read above the stack pointer after the sequence is one above where the frame ends. -/
theorem AfterFrame.memRead_above (d : Word) (k : Nat) : memRead u s.cur (u.sp s.cur + d) k =
    memRead { s with mem := m } s.cur (s.sp s.cur - word frame.length + d) k := by
  rw [h.memRead_eq, h.sp]
  exact memRead_low_add { s with mem := m } ..

/-- Pulling as many bytes as were pushed brings the stack pointer back. -/
theorem AfterFrame.setSp_back (hsp : (s.sp s.cur).toNat < 2 ^ s.w) : u.setSp s.cur (u.sp s.cur + word frame.length) =
    { s with mem := m, sr := u.sr, link := none, pc := u.pc, eim := u.eim, nmiPend := u.nmiPend, run := u.run } := by
  refine h.setSp_eq ?_
  rw [h.sp, low_low_add _ _ _ s.w_le, sub_add_cancel, low_eq_self hsp]

variable (hcont : s.cfg.ncont = 0) (hvacant : s.cfg.vacant = []) (hret : ret.toNat < 2 ^ s.w)
  (hstores : Stores s s.cur (downward (s.sp s.cur) frame) m)
include hcont hvacant hret hstores

/-- Above the `n` bytes of `back` the pull finds the extended status byte and then the address (R680, R691). -/
theorem AfterFrame.memRead_frame {back : List Byte} (hframe : frame = extendedFrame s ret.toNat ++ back)
    (hback : back.length ≤ 1) :
    memRead u s.cur (u.sp s.cur + word (back.length + 1)) 1 = .ok (pulledStatus s ret) ∧
      memRead u s.cur (u.sp s.cur + word (back.length + 2)) (frameBytes s.cfg ret) =
        .ok (low (8 * frameBytes s.cfg ret) ret) ∧
      frame.length = back.length + 1 + frameBytes s.cfg ret := by
  rw [extendedFrame_eq s hret] at hframe
  have hlength : frame.length = back.length + 1 + frameBytes s.cfg ret := by
    rw [hframe, List.length_append, List.length_append, bigEndian_length, List.length_singleton]
    omega
  have hfits : frame.length ≤ 2 ^ s.w := le_pow_width_of_le_frame s ret (by omega)
  refine ⟨?_, ?_, hlength⟩
  · rw [h.memRead_above]
    exact memRead_of_pushed hcont hvacant hstores hfits (by rw [hframe, bigEndian_one])
  · rw [h.memRead_above]
    exact memRead_of_pushed hcont hvacant hstores hfits (front := []) (back := _ :: back)
      (by rw [hframe, List.append_assoc]; rfl)

variable (hgood : GoodState s.w s)
include hgood

/-- RTU from the frame of a trap gives back the code after it (R687, R691). -/
theorem returnFromTrap_of_afterFrame (hframe : frame = extendedFrame s ret.toNat) : returnFromTrap u = .ok { s with
    mem := m
    pc := low s.w (ret + 1)
    sr := { s.sr with p := s.sr.p && s.isHyp, sf := sizeCode (frameSize s.cfg ret.toNat) }
    link := none
    eim := u.eim
    nmiPend := u.nmiPend
    run := u.run } := by
  obtain ⟨h0, hsize, hle⟩ := sizeOfCode_frameBytes s ret
  obtain ⟨hsf, hh, hp⟩ := extendedByte_fields s.isHyp s.prevHyp (frameCode (frameBytes s.cfg ret))
  obtain ⟨-, -, hmode⟩ := (statusOk_iff s).1 hgood.status
  obtain ⟨hrh, hrp⟩ := returnedMode s hmode
  obtain ⟨-, htarget⟩ := returnTarget_eq s hret
  obtain ⟨hx, ha, hlength⟩ := h.memRead_frame hcont hvacant hret hstores (back := [])
    (hframe.trans (List.append_nil _).symm) (by decide)
  have hback : u.sp s.cur + 1 + word (frameBytes s.cfg ret) = u.sp s.cur + word frame.length := by
    rw [hlength, List.length_nil, Nat.zero_add, word_add, ← BitVec.add_assoc]
    rfl
  rw [← hsize] at ha
  rw [returnFromTrap_of_memRead h.pullEnv hx hsf h0 (by rw [hsize, State.wBytes, h.cfg]; exact hle)
    (pulledStatus_allowed s ret) ha, hsize, hback, h.setSp_back (hgood.sp_lt _), State.w_eq_of_cfg h.cfg, htarget, h.cfg,
    pulledStatus, hh, hp, hrh, hrp, h.sr hret, ← frameBytes_eq s.cfg hret, frameCode_eq_sizeCode]

/-- RTI from the frame of a vectored interrupt gives back the interrupted code (R692, R696). -/
theorem returnFromInterrupt_of_afterFrame (hframe : frame = entryFrame s ret (some false)) :
    returnFromInterrupt u = .ok { s with
      mem := m
      pc := ret
      sr := { s.sr with p := s.sr.p && s.isHyp, sf := sizeCode (frameSize s.cfg ret.toNat) }
      link := none
      eim := s.imr
      nmiPend := u.nmiPend
      run := u.run } := by
  obtain ⟨h0, hsize, hle⟩ := sizeOfCode_frameBytes s ret
  obtain ⟨hsf, hh, hp⟩ := extendedByte_fields s.isHyp s.prevHyp (frameCode (frameBytes s.cfg ret))
  obtain ⟨-, -, hmode⟩ := (statusOk_iff s).1 hgood.status
  obtain ⟨hrh, hrp⟩ := returnedMode s hmode
  obtain ⟨htarget, -⟩ := returnTarget_eq s hret
  obtain ⟨-, -, h5, -⟩ := statusByte_fields s.sr
  have hstatus : statusPart s.sr (some false) = [statusByte s.sr false false] := by
    rw [statusPart, ← statusByte_toNat, BitVec.ofNat_toNat, BitVec.setWidth_eq]
  rw [entryFrame, hstatus] at hframe
  obtain ⟨hx, ha, hlength⟩ := h.memRead_frame hcont hvacant hret hstores hframe (Nat.le_refl 1)
  have hfits : frame.length ≤ 2 ^ s.w := le_pow_width_of_le_frame s ret (by rw [hlength, List.length_singleton])
  have hst : memRead u s.cur (u.sp s.cur + 1) 1 = .ok (low (8 * 1) ((statusByte s.sr false false).setWidth 64)) := by
    rw [h.memRead_above]
    exact memRead_of_pushed hcont hvacant hstores hfits (front := extendedFrame s ret.toNat) (back := [])
      (by rw [hframe, bigEndian_one, List.append_nil])
  have hback : u.sp s.cur + 2 + word (frameBytes s.cfg ret) = u.sp s.cur + word frame.length := by
    rw [hlength, word_add, ← BitVec.add_assoc]
    rfl
  rw [← hsize] at ha
  rw [returnFromInterrupt_of_memRead h.pullEnv hst h5 hx hsf h0 (by rw [hsize, State.wBytes, h.cfg]; exact hle)
    (pulledStatus_allowed s ret) ha, hsize, hback, h.setSp_back (hgood.sp_lt _), State.w_eq_of_cfg h.cfg, htarget, h.cfg,
    loadedFlags_statusByte, pulledStatus, hh, hp, h.isHyp, Bool.and_true, hrh, hrp, h.imr, h.sr hret,
    ← frameBytes_eq s.cfg hret, frameCode_eq_sizeCode]
  rfl

end Pulled

/-! ### The round trips -/

theorem permitted_of_isHyp {i : Instr} {s : State} (hum : i.view.pfx.um = false) (hmode : s.isHyp = true) :
    permitted i s = true := by simp [permitted, hum, hmode]

theorem permitted_of_not_sys {i : Instr} {s : State} (hum : i.view.pfx.um = false) (hpage : i.view.row.page ≠ .sys) :
    permitted i s = true := by simp [permitted, hum, hpage]

/-- Settles O59: the trap completes with its frame on the stack of the interrupted code, and RTU pulls that frame. -/
theorem rtuUndoesTrp : Obligations.RtuUndoesTrp := by
  intro op s hwf hcont hvacant ht
  obtain ⟨htrap, -⟩ := trapEntryOrMaxtrap .none op s hwf (permitted_of_not_sys rfl fun hsys => nomatch hsys)
  obtain ⟨m, v, hstores, -, hexec⟩ := htrap ht (writable_of_bare hcont hvacant ..) (readable_of_bare hcont hvacant ..)
  have hpc : low s.w (low s.w ((past (.trp .none op) s).pc - 1) + 1) = (past (.trp .none op) s).pc := by
    rw [low_low_add _ _ _ s.w_le, sub_add_cancel]
    exact low_low ..
  rw [← low_sub_one_eq_wrap] at hstores hexec ⊢
  generalize hret : low s.w ((past (.trp .none op) s).pc - 1) = ret at hstores hexec hpc ⊢
  obtain ⟨u, hu⟩ : ∃ u, u = { entered s ret.toNat (extendedFrame s ret.toNat) m with
    pc := vectorTarget s s.tvAct s.tv v } := ⟨_, rfl⟩
  have hafter : AfterFrame s ret (extendedFrame s ret.toNat) m u := ⟨by rw [hu]⟩
  have hrtu : HasBody (.rtu .none) u returnFromTrap := rfl
  have hback := returnFromTrap_of_afterFrame (hafter.past (.rtu .none)) hcont hvacant (hret ▸ low_lt ..) hstores
    (.of_wellFormed hwf) rfl
  have hkeeps : (past (.rtu .none) u).eim = s.eim ∧ (past (.rtu .none) u).nmiPend = s.nmiPend ∧
      (past (.rtu .none) u).run = s.run := by
    rw [hu]
    simp [past, entered]
  obtain ⟨heim, hnmi, hrun⟩ := hkeeps
  refine ⟨u, by rw [hexec, hu]; rfl, hafter.isHyp, ?_⟩
  rw [exec_eq_next hrtu (permitted_of_isHyp rfl hafter.isHyp) hback, hpc, heim, hnmi, hrun, hu]
  rfl

/-- Settles O60: the entry completes with its frame on the stack of the interrupted code, and RTI pulls that frame. -/
theorem rtiUndoesAVectoredInterrupt : Obligations.RtiUndoesAVectoredInterrupt := by
  intro s k hwf hcont hvacant hact _ huser
  have hgood := GoodState.of_wellFormed hwf
  have hpc : s.pc.toNat < 2 ^ s.w := hgood.wide (by simp [State.wideRegisters])
  obtain ⟨m, v, hstores, -, henter⟩ := enterVectored_of_writable hgood k (writable_of_bare hcont hvacant ..)
    (readable_of_bare hcont hvacant ..)
  obtain ⟨u, hu⟩ : ∃ u, u = { entered s s.pc.toNat (entryFrame s s.pc (some false)) m with
    pc := inBlock s.iv v, eim := BitVec.ofNat 3 (k - 1), nmiPend := s.nmiPend && decide (k ≠ 0), run := .running } := ⟨_, rfl⟩
  have hafter : AfterFrame s s.pc (entryFrame s s.pc (some false)) m u := ⟨by rw [hu]⟩
  have hrti : HasBody (.rti .none) u returnFromInterrupt := rfl
  have hback := returnFromInterrupt_of_afterFrame (hafter.past (.rti .none)) hcont hvacant hpc hstores hgood rfl
  refine ⟨u, ?_, hafter.isHyp, ?_⟩
  · rw [enterInterrupt, if_neg huser, if_pos hact, henter, hu]
  · rw [exec_eq_next hrti (permitted_of_isHyp rfl hafter.isHyp) hback, hu]
    rfl

end Sys2Proof.Machine
end
